-- ==== Sys2Proof/Word.lean ====
section
/-!
DEFINITION. The plain words and index types of the EB416 model.
-/

namespace Sys2Proof

/-- One byte of the link (10.7). -/
abbrev Byte := BitVec 8

/-- A tag, or a lane set (R37, 10.7). -/
abbrev Word16 := BitVec 16

/-- A frame number: the 32-bit frame counter and everything stamped with it (R6). -/
abbrev Word32 := BitVec 32

/-- The hosts H0 to H3; host Hn always communicates through port Pn (00_scope 2.2). -/
abbrev HostId := Fin 4

/-- The lanes L0 to L15 (00_scope 2.2). -/
abbrev LaneId := Fin 16

end Sys2Proof
end

