-- ==== Sys2Proof/Syntax.lean ====
section
/-!
DEFINITION. The commands of the EB416: one constructor per row of spec/opcode_table.json, with the
operands the model gives each row (notes/assumptions/23.md).
-/

namespace Sys2Proof

/-- A reaction to one arrival (R1): the readback check of a lane that has fallen due (R138), the
lane drivers' work on a lane (a pulse end, then the cue that starts: R16 to R19), and the due NOTE
cues of a host's active book (R115). -/
inductive ArrivalReaction where
  | check (l : LaneId)
  | drive (l : LaneId)
  | notes (h : HostId)
  deriving DecidableEq, Repr

/-- A reaction to the boundary event (R3): the lane table's on one lane (R33), the readback
monitor's check of one lane (R139), the load unit's (R71) and run control's (R100, R103, R107) for
one host, and the agreement unit's (R152, R155, R156). -/
inductive BoundaryReaction where
  | lane (l : LaneId)
  | check (l : LaneId)
  | load (h : HostId)
  | run (h : HostId)
  | agreement
  deriving DecidableEq, Repr

/-- What one arrival takes from outside: the levels on RBK0 to RBK15 (bit n high when RBKn is
high), and the order in which its reactions are taken, where the spec leaves that order open
(R113, R138). Reactions not listed follow the listed ones. -/
structure ArrivalIn where
  rbk : BitVec 16
  order : List ArrivalReaction
  deriving DecidableEq, Repr

/-- What a boundary tick takes from outside: the RBK levels at the monitor's boundary checks, the
order of the reactions of the different blocks (R3, R104, R111, R139, R155, R175), and the inputs
of the arrival at position 0 that follows the boundary (R4). Reactions not listed follow the listed
ones. -/
structure BoundaryIn where
  rbk : BitVec 16
  order : List BoundaryReaction
  start : ArrivalIn
  deriving DecidableEq, Repr

/-- The moments of a transaction at which its port acts: the fall of CS_n (R161), the receipt of
byte 1 (R162), and the rise of CS_n (R166). `finish` takes first whatever earlier moments have not
been taken, so that `finish` alone is a whole transaction. -/
inductive TxnPart where
  | select
  | control
  | finish
  deriving DecidableEq, Repr

/-- The commands. A request command is the request engine's taking of that request (R168, R169):
`h` is the requester, `seq` and `payload` the request's sequence number and payload bytes (10.7). -/
inductive Instr where
  /-- ARRIVAL, R1. -/
  | arrival (i : ArrivalIn)
  /-- FRAME_BOUNDARY, R3. -/
  | frameBoundary (b : BoundaryIn)
  /-- PULSE_END, R18: the tick whose arrival is at the pulse end of lane `l`. -/
  | pulseEnd (l : LaneId) (b : BoundaryIn)
  /-- READBACK_CHECK, R138: the tick at which the pending check of lane `l` falls due. -/
  | readbackCheck (l : LaneId) (b : BoundaryIn)
  /-- OFFER_EXPIRY, R126: the boundary at which the offer on lane `l` runs out. -/
  | offerExpiry (l : LaneId) (b : BoundaryIn)
  /-- LOAD_IDLE_TIMEOUT, R71: the boundary at which the load of host `h` times out. -/
  | loadIdleTimeout (h : HostId) (b : BoundaryIn)
  /-- ALTERNATION_TURN, R107: the boundary that is a turn of host `h`. -/
  | alternationTurn (h : HostId) (b : BoundaryIn)
  /-- PROPOSAL_EXPIRY, R152: the boundary at which the open proposal expires. -/
  | proposalExpiry (b : BoundaryIn)
  /-- COMPILE_COMPLETION, R81: the job at the head of the compile queue completes. -/
  | compileCompletion
  /-- STATUS, R181. -/
  | status (h : HostId) (seq : Byte) (payload : List Byte)
  /-- CLAIM, R21. -/
  | claim (h : HostId) (seq : Byte) (payload : List Byte)
  /-- RELEASE, R24. -/
  | release (h : HostId) (seq : Byte) (payload : List Byte)
  /-- LANE SET, R27. -/
  | laneSet (h : HostId) (seq : Byte) (payload : List Byte)
  /-- LANE QUERY, R31. -/
  | laneQuery (h : HostId) (seq : Byte) (payload : List Byte)
  /-- OFFER, R121. -/
  | offer (h : HostId) (seq : Byte) (payload : List Byte)
  /-- WITHDRAW, R123. -/
  | withdraw (h : HostId) (seq : Byte) (payload : List Byte)
  /-- DECLINE, R124. -/
  | decline (h : HostId) (seq : Byte) (payload : List Byte)
  /-- ACCEPT, R125. -/
  | accept (h : HostId) (seq : Byte) (payload : List Byte)
  /-- FAULT CLEAR, R142. -/
  | faultClear (h : HostId) (seq : Byte) (payload : List Byte)
  /-- CUE PUT, R48. -/
  | cuePut (h : HostId) (seq : Byte) (payload : List Byte)
  /-- CUE DROP, R49. -/
  | cueDrop (h : HostId) (seq : Byte) (payload : List Byte)
  /-- BOOK CLEAR, R50. -/
  | bookClear (h : HostId) (seq : Byte) (payload : List Byte)
  /-- BOOK COPY, R51. -/
  | bookCopy (h : HostId) (seq : Byte) (payload : List Byte)
  /-- BOOK READ, R53. -/
  | bookRead (h : HostId) (seq : Byte) (payload : List Byte)
  /-- LOAD OPEN, R64. -/
  | loadOpen (h : HostId) (seq : Byte) (payload : List Byte)
  /-- LOAD CUES, R66. -/
  | loadCues (h : HostId) (seq : Byte) (payload : List Byte)
  /-- LOAD CANCEL, R70. -/
  | loadCancel (h : HostId) (seq : Byte) (payload : List Byte)
  /-- COMPILE, R77. -/
  | compile (h : HostId) (seq : Byte) (payload : List Byte)
  /-- COMPILE ABORT, R88. -/
  | compileAbort (h : HostId) (seq : Byte) (payload : List Byte)
  /-- SWAP, R99. -/
  | swap (h : HostId) (seq : Byte) (payload : List Byte)
  /-- SWAP CANCEL, R101. -/
  | swapCancel (h : HostId) (seq : Byte) (payload : List Byte)
  /-- HALT, R102. -/
  | halt (h : HostId) (seq : Byte) (payload : List Byte)
  /-- MODE SET, R105. -/
  | modeSet (h : HostId) (seq : Byte) (payload : List Byte)
  /-- PROPOSE, R148. -/
  | propose (h : HostId) (seq : Byte) (payload : List Byte)
  /-- VOTE, R150. -/
  | vote (h : HostId) (seq : Byte) (payload : List Byte)
  /-- PROPOSAL WITHDRAW, R151. -/
  | proposalWithdraw (h : HostId) (seq : Byte) (payload : List Byte)
  /-- BAD_REQUEST, R169: a taken request whose code `code` names no request. -/
  | badRequest (h : HostId) (seq : Byte) (code : Byte) (payload : List Byte)
  /-- REQUEST_FRAME, R166: a moment of a transaction on port `p`; `bytes` are the bytes shifted in. -/
  | requestFrame (p : HostId) (part : TxnPart) (bytes : List Byte)
  /-- NULL_FRAME, R162. -/
  | nullFrame (p : HostId) (part : TxnPart) (bytes : List Byte)
  /-- ACK, R163: byte 1 of a transaction on port `p` is received, byte 0 being the valid control
  byte `control` with its ACK bit set. -/
  | ack (p : HostId) (control : Byte)
  /-- SHORT_TRANSACTION, R164: a transaction that ends before 56 bytes. -/
  | shortTransaction (p : HostId) (part : TxnPart) (bytes : List Byte)
  /-- PORT_RESET, R170: a PORT RESET frame. `agreementFirst` says whether the agreement unit's
  effect of the reset is taken before the lane table's (R175 leaves that order open). -/
  | portReset (p : HostId) (part : TxnPart) (bytes : List Byte) (agreementFirst : Bool)
  /-- PRST_N_LOW, R171: PRST_n[p] falls; `sent` is how many bytes of a transaction in progress
  have been shifted out by then. -/
  | prstNLow (p : HostId) (sent : Nat) (agreementFirst : Bool)
  /-- PRST_N_RISE, R171: PRST_n[p] rises. -/
  | prstNRise (p : HostId)
  /-- POWER_ON_RESET, R173: RST_n falls and every block is held at its power-on values; `sent` is,
  for each port, how many bytes of a transaction in progress have been shifted out by then (none where
  it is not given). -/
  | powerOnReset (sent : Vector Nat 4 := Vector.replicate 4 0)
  /-- RST_N_RELEASE, R12: RST_n rises. -/
  | rstNRelease
  deriving DecidableEq, Repr

end Sys2Proof
end

