-- ==== Sys2Proof/Decode.lean ====
section
/-!
DEFINITION. The command that a word spells. spec/opcode_table.json gives no row any bits, so no
word spells a command (notes/assumptions/23.md).
-/

namespace Sys2Proof

/-- The command spelled by the `nbits` bits of `w`: none, since the table gives no bits. -/
def decodeTableWord (_nbits _w : Nat) : Option Instr := none

end Sys2Proof
end

