-- ==== Sys2Proof/Machine/Bytes.lean ====
section
/-!
DEFINITION. Byte order and the link's CRC-8 (10.7).
-/

namespace Sys2Proof.Machine

/-- A count as one byte. -/
def be8 (n : Nat) : List Byte := [BitVec.ofNat 8 n]

/-- Two bytes, most significant first (10.7). -/
def be16 (n : Nat) : List Byte := [BitVec.ofNat 8 (n / 256), BitVec.ofNat 8 n]

/-- Three bytes, most significant first (10.7). -/
def be24 (n : Nat) : List Byte := BitVec.ofNat 8 (n / 65536) :: be16 n

/-- Four bytes, most significant first (10.7). -/
def be32 (n : Nat) : List Byte := BitVec.ofNat 8 (n / 16777216) :: be24 n

/-- The number that bytes spell, most significant first (10.7). -/
def ofBytes (bs : List Byte) : Nat := bs.foldl (fun n b => n * 256 + b.toNat) 0

/-- One shift of the CRC register under the generator x^8+x^2+x+1, most significant bit first. -/
def crcShift (c : Byte) : Byte := if c.getLsbD 7 then (c <<< 1) ^^^ 0x07 else c <<< 1

/-- The CRC register after one more byte: eight shifts. -/
def crcByte (c b : Byte) : Byte :=
  crcShift (crcShift (crcShift (crcShift (crcShift (crcShift (crcShift (crcShift (c ^^^ b))))))))

/-- CRC-8 of both frames: initial value 0xFF, no reflection, no final inversion (10.7). -/
def crc8 (bs : List Byte) : Byte := bs.foldl crcByte 0xFF

end Sys2Proof.Machine
end

