-- ==== Sys2Proof/Machine/State.lean ====
section
/-!
DEFINITION. The state of the EB416: every piece of state the manual gives each block, the reasons a
command can stop (there are none but the one the host asks for), and the state after power-on
reset.
-/

namespace Sys2Proof.Machine

/-! ### Lanes (chapters 2, 7 and 8) -/

/-- Polarity chooses whether the active level appears on the pin as high or as low (R15). -/
inductive Polarity where
  | activeHigh
  | activeLow
  deriving DecidableEq, Repr

/-- Lane settings (R13): polarity, spacing 1 to 255 ticks, readback enable, settle 1 to 15 ticks. -/
structure Settings where
  polarity : Polarity
  spacing : Nat
  readback : Bool
  settle : Nat
  deriving DecidableEq, Repr

/-- The five lane states (R13, 2.2). -/
inductive LaneState where
  | free
  | held
  | offered
  | handover
  | retiring
  deriving DecidableEq, Repr

/-- The offer field (R120): the target, and the boundaries remaining while the lane is OFFERED. -/
structure Offer where
  target : HostId
  remaining : Option Nat
  deriving DecidableEq, Repr

/-- The fault record (R140): frame and position of the check, expected pin level, observed level. -/
structure FaultRecord where
  frame : Word32
  position : Nat
  expectedHigh : Bool
  observedHigh : Bool
  deriving DecidableEq, Repr

/-- The lane record (R13). `level` is true while the level is active. -/
structure LaneRecord where
  state : LaneState
  holder : Option HostId
  settings : Settings
  pending : Option Settings
  level : Bool
  pulseEnd : Option Nat
  offer : Option Offer
  faultFlag : Bool
  faultCount : Nat
  faultRecord : Option FaultRecord
  deriving DecidableEq, Repr

/-- A lane: its record, and the readback monitor's pending check for it (R136). -/
structure Lane extends LaneRecord where
  check : Option Nat
  deriving DecidableEq, Repr

/-! ### Cues, books and slots (chapters 3 to 6) -/

/-- What a cue does, with the fields that are present for that action (R37). -/
inductive Action where
  | rise (lane : LaneId)
  | fall (lane : LaneId)
  | pulse (lane : LaneId) (width : Nat)
  | note
  deriving DecidableEq, Repr

/-- A cue record (R37). -/
structure Cue where
  action : Action
  offset : Nat
  every : Nat
  phase : Nat
  tag : Word16
  deriving DecidableEq, Repr

/-- The two books of a host (R40). -/
inductive BookId where
  | A
  | B
  deriving DecidableEq, Repr

/-- The five book states (R44). -/
inductive BookState where
  | draft
  | compiling
  | ready
  | pending
  | active
  deriving DecidableEq, Repr

/-- The outcome of a compile (R43). -/
inductive ReportOutcome where
  | ready
  | notHolder
  | noFit
  | noteLimit
  | spacing
  deriving DecidableEq, Repr

/-- The compile report (R43). -/
structure Report where
  outcome : ReportOutcome
  index : Option Nat
  second : Option Nat
  tag : Option Word16
  deriving DecidableEq, Repr

/-- A book (R40). The run list is an order over the book's own cues, given by their indices (R42). -/
structure Book where
  cues : List Cue
  state : BookState
  runList : Option (List Nat)
  report : Option Report
  deriving DecidableEq, Repr

/-- A load context (R62). -/
structure Load where
  book : BookId
  declared : Nat
  received : Nat
  lengthAtOpen : Nat
  idle : Nat
  deriving DecidableEq, Repr

/-- The two run modes (R97). -/
inductive Mode where
  | single
  | alternate
  deriving DecidableEq, Repr

/-- The pending action of a run record (R97). -/
inductive PendingAction where
  | none
  | swapTo (b : BookId)
  | halt
  deriving DecidableEq, Repr

/-- The run record (R97). -/
structure RunRecord where
  mode : Mode
  active : Option BookId
  action : PendingAction
  runA : Nat
  runB : Nat
  turn : Nat
  deriving DecidableEq, Repr

/-- What the cue store, the load unit and run control keep for one host (R40, R55, R62, R97). -/
structure HostRecord where
  bookA : Book
  bookB : Book
  slots : Nat
  load : Option Load
  run : RunRecord
  deriving DecidableEq, Repr

/-- A compile job (R76). -/
structure Job where
  host : HostId
  book : BookId
  deriving DecidableEq, Repr

/-! ### Frame-length agreement (chapter 9) -/

/-- A set of hosts. -/
abbrev HostSet := Vector Bool 4

/-- OPEN while votes are awaited, AGREED once the yes set covers the voter set (R146). -/
inductive ProposalState where
  | opened
  | agreed
  deriving DecidableEq, Repr

/-- The proposal record (R146). -/
structure Proposal where
  proposer : HostId
  newF : Nat
  window : Nat
  voters : HostSet
  yes : HostSet
  state : ProposalState
  deriving DecidableEq, Repr

/-! ### Messages (chapter 11) -/

/-- Why an offer ended (R120). -/
inductive OfferReason where
  | withdrawn
  | declined
  | expired
  | fault
  | reset
  deriving DecidableEq, Repr

/-- How a proposal ended without application (R157). -/
inductive ProposalOutcome where
  | rejected
  | expired
  | withdrawn
  deriving DecidableEq, Repr

/-- The notice kinds with their subject fields (R176). -/
inductive NoticeBody where
  | cueReached (tag : Word16)
  | bookActive (b : BookId)
  | turnSkipped (b : BookId) (st : BookState)
  | halted (b : BookId)
  | compileDone (b : BookId) (r : Report)
  | bookDemoted (b : BookId)
  | loadTimeout (b : BookId) (received : Nat)
  | laneFreed (l : LaneId)
  | offerMade (l : LaneId) (giver : HostId) (expiry : Nat)
  | offerEnded (l : LaneId) (reason : OfferReason)
  | handoverDone (l : LaneId) (giver target : HostId)
  | laneFault (l : LaneId) (count : Nat)
  | proposalOpen (proposer : HostId) (f window : Nat)
  | proposalEnded (outcome : ProposalOutcome)
  | frameLength (f : Nat) (first : Word32)
  | overflow (count : Nat)
  deriving DecidableEq, Repr

/-- A notice record (R175). `draw` is the model's own: the number of the message, the argument of
the free values of its unstated bytes. -/
structure Notice where
  body : NoticeBody
  frame : Word32
  repeats : Nat
  draw : Nat
  deriving DecidableEq, Repr

/-- The outcome codes of a reply (R174, 10.7), in the order of their codes 0x00 to 0x1E. -/
inductive ReplyCode where
  | done
  | accepted
  | complete
  | agreed
  | badRequest
  | badArgument
  | notHolder
  | held
  | alreadyHeld
  | retiring
  | offered
  | handover
  | inUse
  | faulted
  | notFaulted
  | faultLimit
  | noOffer
  | compiling
  | pending
  | active
  | alreadyActive
  | loading
  | noLoad
  | late
  | mode
  | busy
  | nothingPending
  | noSpace
  | doesNotFit
  | notVoter
  | noProposal
  deriving DecidableEq, Repr

/-- The status block (R181). -/
structure StatusBlock where
  frame : Word32
  position : Nat
  f : Nat
  proposal : Option Proposal
  lanes : Vector (LaneState × Option HostId) 16
  stateA : BookState
  stateB : BookState
  lengthA : Nat
  lengthB : Nat
  slots : Nat
  commonFree : Nat
  run : RunRecord
  deriving DecidableEq, Repr

/-- The result fields of a reply (10.7), one constructor per shape. -/
inductive Result where
  | none
  | status (b : StatusBlock)
  | lanes (granted : BitVec 16)
  | lane (l : LaneId)
  | laneHost (l : LaneId) (h : HostId)
  | laneRecord (r : LaneRecord)
  | offer (l : LaneId) (target : HostId) (expiry : Nat)
  | accepted (l : LaneId) (giver : HostId) (first : Word32)
  | faultCount (l : LaneId) (count : Nat)
  | book (st : BookState) (length : Nat)
  | bookRead (st : BookState) (length : Nat) (report : Option Report) (cues : List Cue)
  | loadOpened (b : BookId) (lengthAtOpen declared : Nat)
  | loadProgress (b : BookId) (received toCome : Nat)
  | loadComplete (b : BookId) (length : Nat)
  | failingCue (position : Nat)
  | loadCancelled (b : BookId) (received length : Nat)
  | compiling (b : BookId) (length ahead : Nat)
  | bookOnly (b : BookId)
  | swap (b : BookId) (st : BookState) (first : Word32)
  | swapRefused (b : Option BookId) (st : Option BookState)
  | halt (b : BookId) (first : Word32)
  | mode (m : Mode) (active : Option BookId) (turn : Nat)
  | proposal (newF window : Nat) (voters : HostSet)
  | voteEnded (outcome : ProposalOutcome)
  | votersLeft (count : Nat)
  deriving DecidableEq, Repr

/-- An admitted request as it waits in an inbound queue (R166). -/
structure Request where
  seq : Byte
  code : Byte
  payload : List Byte
  deriving DecidableEq, Repr

/-- A reply record (R174). `draw` is the model's own, as in `Notice`. -/
structure Reply where
  seq : Byte
  code : Byte
  outcome : ReplyCode
  result : Result
  draw : Nat
  deriving DecidableEq, Repr

/-! ### Ports (chapter 10) -/

/-- The admission statuses (R166). -/
inductive Admission where
  | none
  | accepted
  | full
  | crc
  | length
  | short
  deriving DecidableEq, Repr

/-- The message named by an acknowledgment state, or offered in a transaction: none, the oldest
reply, or the oldest notice (R163, R165). -/
inductive Named where
  | nothing
  | reply
  | notice
  deriving DecidableEq, Repr

/-- The kind of a request frame as its port treats it (R162). -/
inductive FrameKind where
  | null
  | request
  | portReset
  deriving DecidableEq, Repr

/-- The transaction in progress on a port: none; CS_n has fallen and bytes 0 and 1 of the return
frame are fixed (R161); byte 1 has been received, the frame's kind is known, and the return frame
and the message it offers are chosen (R161, R162); or CS_n is low on a transaction the port does
not take, of which `sent` has been shifted out before it was abandoned (R171). -/
inductive Link where
  | idle
  | selected (b0 b1 : Byte)
  | offering (kind : FrameKind) (frame : List Byte) (offered : Named)
  | lost (sent : List Byte)
  deriving DecidableEq, Repr

/-- A host port (chapter 10). `held` is true while PRST_n is low; `sdo` is what the port shifted
out in the last transaction that ended. -/
structure Port where
  inbound : List Request
  replies : List Reply
  notices : List Notice
  ack : Named
  admission : Admission
  held : Bool
  link : Link
  sdo : List Byte
  deriving DecidableEq, Repr

/-! ### The machine -/

/-- The timebase (chapter 1). -/
structure Timebase where
  f : Nat
  position : Nat
  frame : Word32
  nextLength : Option Nat
  fmark : Bool
  deriving DecidableEq, Repr

/-- The whole part. `draws` and `pending` are the model's own: the number of messages placed so
far, and the commands that are waiting. -/
structure State where
  rstN : Bool
  timebase : Timebase
  rbk : BitVec 16
  lanes : Vector Lane 16
  hosts : Vector HostRecord 4
  jobs : List Job
  proposal : Option Proposal
  ports : Vector Port 4
  lastServed : HostId
  draws : Nat
  pending : List Instr
  deriving DecidableEq, Repr

/-- Why a command would stop the machine. The manual names no such reason: a closed inductive with
no constructor, so that no command faults. -/
inductive Fault where
  deriving DecidableEq, Repr

/-- Why a command would have no meaning. -/
inductive Refusal where
  /-- Raised by `exec`'s arm of a command that has no meaning yet; no arm raises it. Safe. -/
  | notModelled (mnemonic : String)
  deriving DecidableEq, Repr

/-! ### Power-on values -/

/-- The settings in force of a lane after power-on reset (R34). -/
def Settings.powerOn : Settings := ⟨.activeHigh, 1, false, 4⟩

/-- A lane after power-on reset (R34, R145). -/
def Lane.powerOn : Lane where
  state := .free
  holder := none
  settings := Settings.powerOn
  pending := none
  level := false
  pulseEnd := none
  offer := none
  faultFlag := false
  faultCount := 0
  faultRecord := none
  check := none

/-- A DRAFT and empty book, with no run list and no report (R59, R60). -/
def Book.empty : Book := ⟨[], .draft, none, none⟩

/-- A run record's initial values (R97, R118, R119). -/
def RunRecord.initial : RunRecord := ⟨.single, none, .none, 1, 1, 0⟩

/-- The cue store, load unit and run control of one host after a reset (R59, R75, R119; after a port
reset R60, R74, R118). -/
def HostRecord.initial : HostRecord := ⟨.empty, .empty, 0, none, .initial⟩

/-- A port after power-on reset (R173), its PRST_n and CS_n high (notes/assumptions/6.md). -/
def Port.powerOn : Port := ⟨[], [], [], .nothing, .none, false, .idle, []⟩

/-- The timebase after power-on reset (R12). -/
def Timebase.powerOn : Timebase := ⟨1000000, 0, 0, none, false⟩

/-- The part just after the release of RST_n (R12, R34, R59, R75, R96, R119, R145, R159, R173). -/
def State.reset : State where
  rstN := true
  timebase := .powerOn
  rbk := 0
  lanes := Vector.replicate 16 .powerOn
  hosts := Vector.replicate 4 .initial
  jobs := []
  proposal := none
  ports := Vector.replicate 4 .powerOn
  lastServed := 3
  draws := 0
  pending := []

end Sys2Proof.Machine
end

