-- ==== Sys2Proof/Machine/Operands.lean ====
section
/-!
DEFINITION. The operand forms of the requests: reading lanes, hosts, books, counts, settings and
cues out of payload bytes (10.7), and the tests on their values that stand alone (R38, R169).
-/

namespace Sys2Proof.Machine

/-- A lane number; above 15 it names no lane. -/
def laneOfByte (b : Byte) : Option LaneId :=
  if h : b.toNat < 16 then some ⟨b.toNat, h⟩ else none

/-- A host number 0 to 3. -/
def hostOfByte (b : Byte) : Option HostId :=
  if h : b.toNat < 4 then some ⟨b.toNat, h⟩ else none

/-- A book: 0 is A, 1 is B, and nothing else names a book (R40). -/
def bookOfByte (b : Byte) : Option BookId :=
  if b = 0 then some .A else if b = 1 then some .B else none

/-- A run mode: 0 SINGLE, 1 ALTERNATE. -/
def modeOfByte (b : Byte) : Option Mode :=
  if b = 0 then some .single else if b = 1 then some .alternate else none

/-- A vote, true for YES: 0 NO, 1 YES (R150). -/
def voteOfByte (b : Byte) : Option Bool :=
  if b = 0 then some false else if b = 1 then some true else none

/-- A lane set of two bytes: bit n names lane Ln. -/
def maskOfBytes (hi lo : Byte) : BitVec 16 := hi ++ lo

/-- Settings within their ranges (R27): flags (bit 0 active-low, bit 1 readback on; the other bits
are not read, notes/assumptions/11.md), spacing 1 to 255, settle 1 to 15. -/
def settingsOfBytes (flags spacing settle : Byte) : Option Settings :=
  if 1 ≤ spacing.toNat ∧ 1 ≤ settle.toNat ∧ settle.toNat ≤ 15 then
    some ⟨if flags.getLsbD 0 then .activeLow else .activeHigh, spacing.toNat, flags.getLsbD 1,
      settle.toNat⟩
  else none

/-- A count in a range. -/
def inRange (lo hi n : Nat) : Option Nat := if lo ≤ n ∧ n ≤ hi then some n else none

/-- The lane field of a cue's byte 0: 31 means absent (`some none`); 16 to 30 are present and out
of range (`none`). -/
def cueLane (b0 : Byte) : Option (Option LaneId) :=
  let n := (b0 &&& 31).toNat
  if n = 31 then some none else if h : n < 16 then some (some ⟨n, h⟩) else none

/-- The action of a cue with its lane and width, where the presence and range tests of R38 pass:
action code in bits 7-6, width present in bit 5. -/
def cueAction (b0 : Byte) (width : Nat) : Option Action :=
  match (b0 >>> 6).toNat, cueLane b0, b0.getLsbD 5 with
  | 0, some (some l), false => some (.rise l)
  | 1, some (some l), false => some (.fall l)
  | 2, some (some l), true => if width = 0 then none else some (.pulse l width)
  | 3, some none, false => some .note
  | _, _, _ => none

/-- A cue from its ten bytes, `none` where a test of R38 fails. -/
def cueOfBytes : List Byte → Option Cue
  | [b0, b1, b2, b3, b4, b5, b6, b7, b8, b9] =>
    match cueAction b0 (ofBytes [b4, b5]) with
    | some a =>
      if b6.toNat ≠ 0 ∧ b7.toNat < b6.toNat then
        some ⟨a, ofBytes [b1, b2, b3], b6.toNat, b7.toNat, b8 ++ b9⟩
      else none
    | none => none
  | _ => none

/-- The bytes of a cue. -/
def cueBytes : Nat := 10

/-- The cues carried by a LOAD CUES payload, each as its ten bytes; `none` where the payload is not
10, 20, 30 or 40 bytes (R169). -/
def cueChunks (payload : List Byte) : Option (List (List Byte)) :=
  if payload.length % cueBytes = 0 ∧ 1 ≤ payload.length / cueBytes ∧
      payload.length / cueBytes ≤ 4 then
    some ((List.range (payload.length / cueBytes)).map fun i =>
      (payload.drop (cueBytes * i)).take cueBytes)
  else none

/-- The cues of a LOAD CUES, or the position of the first one that fails R38 (R66 step 2). -/
def cuesOfChunks (chunks : List (List Byte)) : Except Nat (List Cue) :=
  match chunks.findIdx? (fun c => (cueOfBytes c).isNone) with
  | some k => .error k
  | none => .ok (chunks.filterMap cueOfBytes)

end Sys2Proof.Machine
end

