-- ==== Sys2Proof/Machine/Ops.lean ====
section
/-!
DEFINITION. The named operations over the state that every block shares: reading and writing one
lane, host or port, posting a notice, placing a reply, driving a lane's level, asking the readback
monitor for a check, and taking reactions in an order.
-/

namespace Sys2Proof.Machine

/-! ### Reading and writing parts of the state -/

/-- Every lane, L0 first. -/
def allLanes : List LaneId := List.finRange 16

/-- Every host, H0 first. -/
def allHosts : List HostId := List.finRange 4

/-- Both books, A first. -/
def allBooks : List BookId := [.A, .B]

/-- Lane `l`. -/
def State.lane (s : State) (l : LaneId) : Lane := s.lanes[l.val]

/-- The host record of `h`. -/
def State.host (s : State) (h : HostId) : HostRecord := s.hosts[h.val]

/-- Port `h`. -/
def State.port (s : State) (h : HostId) : Port := s.ports[h.val]

def State.setLane (s : State) (l : LaneId) (x : Lane) : State :=
  { s with lanes := s.lanes.set l.val x }

def State.setHost (s : State) (h : HostId) (x : HostRecord) : State :=
  { s with hosts := s.hosts.set h.val x }

def State.setPort (s : State) (h : HostId) (x : Port) : State :=
  { s with ports := s.ports.set h.val x }

def State.setRstN (s : State) (x : Bool) : State := { s with rstN := x }

def State.setTimebase (s : State) (x : Timebase) : State := { s with timebase := x }

def State.setRbk (s : State) (x : BitVec 16) : State := { s with rbk := x }

def State.setLanes (s : State) (x : Vector Lane 16) : State := { s with lanes := x }

def State.setJobs (s : State) (x : List Job) : State := { s with jobs := x }

def State.setProposal (s : State) (x : Option Proposal) : State := { s with proposal := x }

def State.setLastServed (s : State) (x : HostId) : State := { s with lastServed := x }

def State.setDraws (s : State) (x : Nat) : State := { s with draws := x }

def State.setPending (s : State) (x : List Instr) : State := { s with pending := x }

/-- Change every lane by a function of the lane alone. -/
def State.mapLanes (s : State) (f : Lane → Lane) : State :=
  s.setLanes (Vector.ofFn fun l => f (s.lane l))

/-- The other book of a host (00_scope 2.2). -/
def BookId.other : BookId → BookId
  | .A => .B
  | .B => .A

/-- Book `b` of a host record. -/
def HostRecord.book (r : HostRecord) : BookId → Book
  | .A => r.bookA
  | .B => r.bookB

def HostRecord.setBook (r : HostRecord) (b : BookId) (x : Book) : HostRecord :=
  match b with
  | .A => { r with bookA := x }
  | .B => { r with bookB := x }

def HostRecord.setSlots (r : HostRecord) (n : Nat) : HostRecord := { r with slots := n }

def HostRecord.setLoad (r : HostRecord) (x : Option Load) : HostRecord := { r with load := x }

def HostRecord.setRun (r : HostRecord) (x : RunRecord) : HostRecord := { r with run := x }

/-- Book `b` of host `h`. -/
def State.book (s : State) (h : HostId) (b : BookId) : Book := (s.host h).book b

def State.setBook (s : State) (h : HostId) (b : BookId) (x : Book) : State :=
  s.setHost h ((s.host h).setBook b x)

/-- The run record of host `h`. -/
def State.run (s : State) (h : HostId) : RunRecord := (s.host h).run

def State.setRun (s : State) (h : HostId) (x : RunRecord) : State :=
  s.setHost h ((s.host h).setRun x)

/-- Host `h` belongs to the set. -/
def HostSet.has (x : HostSet) (h : HostId) : Bool := x[h.val]

/-- The set of the hosts that pass a test. -/
def HostSet.ofTest (f : HostId → Bool) : HostSet := Vector.ofFn f

/-- The set with host `h` added. -/
def HostSet.add (x : HostSet) (h : HostId) : HostSet := Vector.set x h.val true

/-- The set with host `h` removed. -/
def HostSet.remove (x : HostSet) (h : HostId) : HostSet := Vector.set x h.val false

/-- The hosts of a set, H0 first. -/
def HostSet.toList (x : HostSet) : List HostId := allHosts.filter (HostSet.has x)

/-! ### Orders of reactions -/

/-- Every one of `all` once: first those `preferred` lists, in that order, then the others. -/
def inOrder {α : Type} [DecidableEq α] (preferred all : List α) : List α :=
  (preferred.filter (· ∈ all)).eraseDups ++ all.filter (· ∉ preferred)

/-! ### Notices (chapter 11) -/

/-- The notice is an OVERFLOW entry. -/
def Notice.isOverflow (n : Notice) : Bool :=
  match n.body with
  | .overflow _ => true
  | _ => false

/-- Two notices match: the same kind and, where the kind has a subject key, equal keys (R176). -/
def NoticeBody.matches : NoticeBody → NoticeBody → Bool
  | .cueReached t, .cueReached t' => t == t'
  | .bookActive b, .bookActive b' => b == b'
  | .turnSkipped b _, .turnSkipped b' _ => b == b'
  | .halted b, .halted b' => b == b'
  | .compileDone b _, .compileDone b' _ => b == b'
  | .bookDemoted b, .bookDemoted b' => b == b'
  | .loadTimeout b _, .loadTimeout b' _ => b == b'
  | .laneFreed l, .laneFreed l' => l == l'
  | .offerMade l _ _, .offerMade l' _ _ => l == l'
  | .offerEnded l _, .offerEnded l' _ => l == l'
  | .handoverDone l _ _, .handoverDone l' _ _ => l == l'
  | .laneFault l _, .laneFault l' _ => l == l'
  | .proposalOpen _ _ _, .proposalOpen _ _ _ => true
  | .proposalEnded _, .proposalEnded _ => true
  | .frameLength _ _, .frameLength _ _ => true
  | _, _ => false

/-- A count that saturates at 255 (R177, R178). -/
def saturate (n : Nat) : Nat := min 255 n

/-- The OVERFLOW entry with one more notice discarded; any other entry as it is (R177 step 2). -/
def Notice.countDiscarded (n : Notice) : Notice :=
  match n.body with
  | .overflow c => { n with body := .overflow (saturate (c + 1)) }
  | _ => n

/-- The youngest entry `y` after `n` has merged into it (R178). -/
def Notice.merged (y n : Notice) : Notice := { n with repeats := saturate (y.repeats + 1) }

/-- The entry of discarded notice `n` (R177 step 3, R179). -/
def Notice.overflowFor (n : Notice) : Notice := { n with body := .overflow 1, repeats := 1 }

/-- At most 15 ordinary entries stand in a notice queue (11.3). -/
def maxOrdinaryNotices : Nat := 15

/-- A merge into the entry named by the acknowledgment state, or chosen for the transaction in
progress, leaves that state none (R178). -/
def Port.forgetNotice (p : Port) : Port :=
  { p with
    ack := if p.ack = .notice then .nothing else p.ack
    link := match p.link with
      | .offering k f .notice => .offering k f .nothing
      | x => x }

/-- The notice queue's four steps for a new notice (R177). -/
def Port.enqueue (p : Port) (n : Notice) : Port :=
  match p.notices.getLast? with
  | some y =>
    if !y.isOverflow && y.body.matches n.body then
      let p' := if p.notices.length = 1 then p.forgetNotice else p
      { p' with notices := p.notices.dropLast ++ [y.merged n] }
    else if p.notices.any Notice.isOverflow then
      { p with notices := p.notices.map Notice.countDiscarded }
    else if maxOrdinaryNotices ≤ p.notices.length then
      { p with notices := p.notices ++ [n.overflowFor] }
    else
      { p with notices := p.notices ++ [n] }
  | none => { p with notices := [n] }

/-- Post a notice to host `h`, stamped with the frame now running; a notice to a port held in reset
is discarded at posting (R171, R175). -/
def State.post (s : State) (h : HostId) (b : NoticeBody) : State :=
  if (s.port h).held then s
  else
    (s.setPort h ((s.port h).enqueue ⟨b, s.timebase.frame, 1, s.draws⟩)).setDraws (s.draws + 1)

/-- Notices on their way, each to one host. -/
abbrev Posts := List (HostId × NoticeBody)

/-- Post notices one after another. -/
def State.postAll (s : State) (ps : Posts) : State := ps.foldl (fun s p => s.post p.1 p.2) s

/-! ### Replies (R169, R174) -/

/-- The reply placed at the tail of the requester's reply queue. -/
def State.placeReply (s : State) (h : HostId) (seq code : Byte) (o : ReplyCode) (r : Result) :
    State :=
  (s.setPort h { s.port h with replies := (s.port h).replies ++ [⟨seq, code, o, r, s.draws⟩] }).setDraws
    (s.draws + 1)

/-! ### The level of a lane (R15, R20, R136, R137) -/

/-- The level on the LANEn pin, true for high: the level mapped through the polarity in force
(R15). -/
def LaneRecord.pin (x : LaneRecord) : Bool :=
  match x.settings.polarity with
  | .activeHigh => x.level
  | .activeLow => !x.level

/-- The readback monitor watches the lane (R136). -/
def Lane.watched (x : Lane) : Bool := x.holder.isSome && x.settings.readback && !x.faultFlag

/-- A report of a level change or a request for a check reaches the monitor: a watched lane's
pending check is set to its settle in force (R137). -/
def Lane.schedule (x : Lane) : Lane :=
  if x.watched then { x with check := some x.settings.settle } else x

/-- A pending check is removed when the lane stops being watched (R136). -/
def Lane.settleWatch (x : Lane) : Lane := if x.watched then x else { x with check := none }

/-- The lane drivers set level and pulse end; a change of level is reported to the monitor, a drive
that leaves the level as it was is not (R20). -/
def Lane.drive (x : Lane) (level : Bool) (pulseEnd : Option Nat) : Lane :=
  let y : Lane := { x with level := level, pulseEnd := pulseEnd }
  if level = x.level then y else y.schedule

/-- A lane's change and the notices it posts, carried out on lane `l` of the state. -/
def State.reactLane (s : State) (l : LaneId) (f : Lane → Lane × Posts) : State :=
  (s.setLane l (f (s.lane l)).1).postAll (f (s.lane l)).2

/-- A lane given up: RETIRING, and driven inactive at once unless a pulse is running (R25). -/
def Lane.retire (x : Lane) : Lane :=
  let y : Lane := { x with state := .retiring }
  if x.pulseEnd.isNone then y.drive false none else y

/-! ### Who holds a lane (R14) -/

/-- The states in which a holder's cues may start on its lane and in which it counts as holding it
for the agreement unit (R14, R113, R147). -/
def LaneState.working : LaneState → Bool
  | .held => true
  | .offered => true
  | .handover => true
  | _ => false

/-- Host `h` holds lane `x` for the timeline engine and the agreement unit (R14). -/
def LaneRecord.workedBy (x : LaneRecord) (h : HostId) : Bool :=
  x.state.working && x.holder == some h

/-- Host `h` holds at least one lane for the agreement unit (R147). -/
def State.holdsLane (s : State) (h : HostId) : Bool :=
  allLanes.any fun l => (s.lane l).workedBy h

/-! ### Fit (00_scope 3, R82, R148) -/

/-- The lane of a cue, absent for NOTE (R37). -/
def Cue.lane? (c : Cue) : Option LaneId :=
  match c.action with
  | .rise l => some l
  | .fall l => some l
  | .pulse l _ => some l
  | .note => none

/-- A cue with a lane fits a length: its offset is less than it and, for a PULSE, its offset plus
its width does not exceed it; NOTE cues are not tested (R82, R148). -/
def Cue.fits (c : Cue) (f : Nat) : Bool :=
  match c.action with
  | .note => true
  | .pulse _ w => c.offset < f && c.offset + w ≤ f
  | _ => c.offset < f

/-- A book fits a length if every one of its cues with a lane fits it. -/
def Book.fits (b : Book) (f : Nat) : Bool := b.cues.all (·.fits f)

/-! ### Slots (R55, R56) -/

/-- The slots of one host's reserve. -/
def reserveSlots : Nat := 128

/-- The slots shared among all hosts beyond their reserves. -/
def commonSlots : Nat := 512

/-- The most cues a book holds (R40). -/
def maxBook : Nat := 512

/-- A slot count's draw on the common slots (R55). -/
def draw (u : Nat) : Nat := u - reserveSlots

/-- The sum of the four hosts' draws (R55). -/
def State.drawn (s : State) : Nat := (allHosts.map fun h => draw (s.host h).slots).sum

/-- The common slots free (R55). -/
def State.commonFree (s : State) : Nat := commonSlots - s.drawn

/-- The slot test for `k` more slots for host `h` (R56). -/
def State.slotTest (s : State) (h : HostId) (k : Nat) : Bool :=
  let u := (s.host h).slots
  u + k ≤ reserveSlots || draw (u + k) - draw u ≤ s.commonFree

/-! ### Books leaving their state (R42, R46, R154) -/

/-- A book to DRAFT with no run list and no report: an accepted edit (R43, R46). -/
def Book.edited (b : Book) : Book := { b with state := .draft, runList := none, report := none }

/-- A book demoted: DRAFT, run list discarded, report kept (R154). -/
def Book.demoted (b : Book) : Book := { b with state := .draft, runList := none }

end Sys2Proof.Machine
end

