-- ==== Sys2Proof/Machine/Engine.lean ====
section
/-!
DEFINITION. The request engine (10.4): the round robin over the ports, the taking of a request, and
the reply it places.
-/

namespace Sys2Proof.Machine

/-- The ports in the order the engine considers them, starting with the one after `last` (R168). -/
def portsAfter (last : HostId) : List HostId := [last + 1, last + 2, last + 3, last]

/-- The request the engine takes next: the oldest of the first port, in round-robin order after the
port served last, that is not held in reset and has a request waiting (R168). -/
def State.nextRequest (s : State) : Option (HostId × Request) :=
  if s.rstN then
    (portsAfter s.lastServed).findSome? fun h =>
      if (s.port h).held then none else (s.port h).inbound.head?.map fun r => (h, r)
  else none

/-- What the owning block decides about a request: the outcome, the result fields, and the state
its changes leave (R169). -/
structure Answer where
  code : ReplyCode
  result : Result
  state : State

/-- A refusal with no result fields: it changes nothing (R174). -/
def State.refuse (s : State) (c : ReplyCode) : Answer := ⟨c, .none, s⟩

/-- A refusal with the result fields of R174's exceptions. -/
def State.refuseWith (s : State) (c : ReplyCode × Result) : Answer := ⟨c.1, c.2, s⟩

/-- Port `h`'s oldest request leaves its queue, and the port is recorded as the one served last
(R168). -/
def State.popRequest (s : State) (h : HostId) : State :=
  (s.setPort h { s.port h with inbound := (s.port h).inbound.tail }).setLastServed h

/-- The engine takes request `code` of host `h` and carries it out whole: the owner's answer, and
exactly one reply at the tail of the requester's reply queue (R169). Where that request is not the
one the engine takes next, the event does not occur and nothing changes
(notes/assumptions/2.md). -/
def State.take (s : State) (h : HostId) (seq code : Byte) (payload : List Byte)
    (act : State → Answer) : State :=
  if s.nextRequest = some (h, ⟨seq, code, payload⟩) then
    let a := act (s.popRequest h)
    a.state.placeReply h seq code a.code a.result
  else s

/-- A payload of one lane number (R169): a lane above 15, or another length, is BAD_ARGUMENT. -/
def State.onLane (s : State) (payload : List Byte) (f : LaneId → Answer) : Answer :=
  match payload with
  | [b] =>
    match laneOfByte b with
    | some l => f l
    | none => s.refuse .badArgument
  | _ => s.refuse .badArgument

/-- A payload of one book (R40, R169). -/
def State.onBook (s : State) (payload : List Byte) (f : BookId → Answer) : Answer :=
  match payload with
  | [b] =>
    match bookOfByte b with
    | some x => f x
    | none => s.refuse .badArgument
  | _ => s.refuse .badArgument

/-- A request that carries no payload (R169). -/
def State.onNothing (s : State) (payload : List Byte) (f : Answer) : Answer :=
  match payload with
  | [] => f
  | _ => s.refuse .badArgument

/-- The request codes of the request table (10.7). -/
def codesOfRequests : List Byte :=
  [0x01, 0x02, 0x03, 0x04, 0x05, 0x06, 0x07, 0x08, 0x09, 0x0A, 0x10, 0x11, 0x12, 0x13, 0x14,
   0x18, 0x19, 0x1A, 0x1C, 0x1D, 0x20, 0x21, 0x22, 0x23, 0x28, 0x29, 0x2A]

/-- BAD_REQUEST, R169: a code that names no request is answered BAD_REQUEST and changes nothing. -/
def execBadRequest (h : HostId) (seq code : Byte) (payload : List Byte) (s : State) :
    Host.Outcome State Fault Refusal :=
  if codesOfRequests.contains code then .next s
  else .next (s.take h seq code payload fun s => s.refuse .badRequest)

end Sys2Proof.Machine
end

