-- ==== Sys2Proof/Machine/Lanes.lean ====
section
/-!
DEFINITION. The lane requests of chapter 2 (CLAIM, RELEASE, LANE SET, LANE QUERY) and the lane
table's reaction to a boundary (R33).
-/

namespace Sys2Proof.Machine

/-! ### CLAIM -/

/-- The lanes a mask names, L0 first. -/
def lanesOfMask (m : BitVec 16) : List LaneId := allLanes.filter fun l => m.getLsbD l.val

/-- A lane granted by CLAIM (R21): HELD by the requester with its fault count 0; all else stays. -/
def Lane.granted (x : Lane) (h : HostId) : Lane :=
  { x with state := .held, holder := some h, faultCount := 0 }

/-- Grant lanes to a host. -/
def State.grant (s : State) (h : HostId) (ls : List LaneId) : State :=
  ls.foldl (fun s l => s.setLane l ((s.lane l).granted h)) s

/-- The refusal of a CLAIM whose first lane not FREE is `l` (R22). -/
def claimRefusal (h : HostId) (l : LaneId) (x : LaneRecord) : ReplyCode × Result :=
  match x.state, x.holder with
  | .retiring, _ => (.retiring, .lane l)
  | _, some g => if g = h then (.alreadyHeld, .lane l) else (.held, .laneHost l g)
  | _, none => (.held, .lane l)

/-- CLAIM {lane set} (R21, R22): every named lane or none. -/
def claimLanes (h : HostId) (m : BitVec 16) (s : State) : Answer :=
  if m = 0 then s.refuse .badArgument
  else
    match (lanesOfMask m).find? (fun l => (s.lane l).state != .free) with
    | some l => s.refuseWith (claimRefusal h l (s.lane l).toLaneRecord)
    | none => ⟨.done, .lanes m, s.grant h (lanesOfMask m)⟩

/-- CLAIM, R21. -/
def execClaim (h : HostId) (seq : Byte) (payload : List Byte) (s : State) :
    Host.Outcome State Fault Refusal :=
  .next (s.take h seq 0x02 payload fun s =>
    match payload with
    | [hi, lo] => claimLanes h (maskOfBytes hi lo) s
    | _ => s.refuse .badArgument)

/-! ### RELEASE -/

/-- RELEASE {lane} (R24, R25). -/
def releaseLane (h : HostId) (l : LaneId) (s : State) : Answer :=
  let x := s.lane l
  if x.holder ≠ some h then s.refuse .notHolder
  else
    match x.state with
    | .free => s.refuse .notHolder
    | .retiring => s.refuse .retiring
    | .offered => s.refuse .offered
    | .handover => s.refuse .handover
    | .held => ⟨.done, .lane l, s.setLane l x.retire⟩

/-- RELEASE, R24. -/
def execRelease (h : HostId) (seq : Byte) (payload : List Byte) (s : State) :
    Host.Outcome State Fault Refusal :=
  .next (s.take h seq 0x03 payload fun s => s.onLane payload (fun l => releaseLane h l s))

/-! ### LANE SET -/

/-- The book is compiled: READY, PENDING or ACTIVE (R28, R148). -/
def BookState.compiled : BookState → Bool
  | .ready => true
  | .pending => true
  | .active => true
  | _ => false

/-- The book contains a cue on lane `l` (R28). -/
def Book.uses (b : Book) (l : LaneId) : Bool := b.cues.any fun c => c.lane? == some l

/-- A compiled book of host `h` contains a cue on lane `l` (R28). -/
def State.laneInUse (s : State) (h : HostId) (l : LaneId) : Bool :=
  allBooks.any fun b => (s.book h b).state.compiled && (s.book h b).uses l

/-- LANE SET {lane, settings} on a lane that exists, with settings in range (R27, R28). -/
def stageSettings (h : HostId) (l : LaneId) (x : Settings) (s : State) : Answer :=
  let r := s.lane l
  if r.holder ≠ some h then s.refuse .notHolder
  else
    match r.state with
    | .free => s.refuse .notHolder
    | .retiring => s.refuse .retiring
    | .handover => s.refuse .handover
    | _ =>
      if r.settings.spacing < x.spacing && s.laneInUse h l then s.refuse .inUse
      else ⟨.done, .lane l, s.setLane l { r with pending := some x }⟩

/-- LANE SET, R27. -/
def execLaneSet (h : HostId) (seq : Byte) (payload : List Byte) (s : State) :
    Host.Outcome State Fault Refusal :=
  .next (s.take h seq 0x04 payload fun s =>
    match payload with
    | [lane, flags, spacing, settle] =>
      match laneOfByte lane, settingsOfBytes flags spacing settle with
      | some l, some x => stageSettings h l x s
      | _, _ => s.refuse .badArgument
    | _ => s.refuse .badArgument)

/-! ### LANE QUERY -/

/-- LANE QUERY, R31: the whole lane record, as it stands. -/
def execLaneQuery (h : HostId) (seq : Byte) (payload : List Byte) (s : State) :
    Host.Outcome State Fault Refusal :=
  .next (s.take h seq 0x05 payload fun s =>
    s.onLane payload (fun l => ⟨.done, .laneRecord (s.lane l).toLaneRecord, s⟩))

/-! ### The lane table at the boundary (R33) -/

/-- Pending settings, where present, become the settings in force; the lane is driven inactive, and
the monitor is asked for a check if readback is on (R29). -/
def Lane.applySettings (x : Lane) : Lane :=
  match x.pending with
  | none => x
  | some p =>
    let y : Lane := { x with settings := p, pending := none }
    (y.drive false none).schedule.settleWatch

/-- The handover to `target` completes (R130). -/
def Lane.handOver (x : Lane) (target : HostId) : Lane :=
  let y := x.drive false none
  let z : Lane :=
    { y with
      state := .held, holder := some target, offer := none, pending := none
      faultFlag := false, faultCount := 0, faultRecord := none }
  z.schedule.settleWatch

/-- A RETIRING lane becomes FREE; the settings in force stay with the lane (R26, R30). -/
def Lane.freed (x : Lane) : Lane :=
  { x with
    state := .free, holder := none, pending := none
    faultFlag := false, faultCount := 0, faultRecord := none, check := none }

/-- An OFFERED lane's count is reduced by one; at 0 the offer expires and the lane is HELD by the
giver (R126). -/
def Lane.countOffer (l : LaneId) (x : Lane) : Lane × Posts :=
  match x.offer with
  | some ⟨t, some n⟩ =>
    if n ≤ 1 then
      ({ x with state := .held, offer := none },
        (x.holder.toList.map fun g => (g, .offerEnded l .expired)) ++ [(t, .offerEnded l .expired)])
    else ({ x with offer := some ⟨t, some (n - 1)⟩ }, [])
  | _ => (x, [])

/-- The lane table's reaction to a boundary on lane `l` (R33). -/
def Lane.atBoundary (l : LaneId) (x : Lane) : Lane × Posts :=
  match x.state with
  | .free => (x, [])
  | .held => (x.applySettings, [])
  | .offered => ((x.countOffer l).1.applySettings, (x.countOffer l).2)
  | .handover =>
    match x.offer, x.holder with
    | some o, some g =>
      (x.handOver o.target,
        [(g, .handoverDone l g o.target), (o.target, .handoverDone l g o.target)])
    | _, _ => (x, [])
  | .retiring => (x.freed, x.holder.toList.map fun g => (g, .laneFreed l))

end Sys2Proof.Machine
end

