-- ==== Sys2Proof/Machine/Agreement.lean ====
section
/-!
DEFINITION. The agreement unit of chapter 9: PROPOSE, VOTE, PROPOSAL WITHDRAW, the change to AGREED
with its demotions, and the agreement unit's reaction to a boundary.
-/

namespace Sys2Proof.Machine

/-- Every READY, PENDING and ACTIVE book of host `h` fits `f` (R148, R150). -/
def State.compiledBooksFit (s : State) (h : HostId) (f : Nat) : Bool :=
  allBooks.all fun b => !(s.book h b).state.compiled || (s.book h b).fits f

/-! ### Demotion (R154, R155, R104) -/

/-- Demote book `b` of host `h`: DRAFT, run list discarded, report kept; a swap to it is cancelled;
BOOK_DEMOTED to the owner (R104, R154). -/
def State.demote (s : State) (h : HostId) (b : BookId) : State :=
  let r := s.host h
  let run' : RunRecord :=
    if (r.book b).state = .pending then { r.run with action := .none } else r.run
  (s.setHost h ((r.setBook b (r.book b).demoted).setRun run')).post h (.bookDemoted b)

/-- Every book of every host, book A first. -/
def everyBook : List (HostId × BookId) := allHosts.flatMap fun h => allBooks.map fun b => (h, b)

/-- Demote every book that a test singles out, book A of a host before book B (R154, R175). -/
def State.demoteWhere (s : State) (p : HostId → BookId → Book → Bool) : State :=
  everyBook.foldl (fun t x => if p x.1 x.2 (t.book x.1 x.2) then t.demote x.1 x.2 else t) s

/-- A READY or PENDING book that does not fit `f` (R154). -/
def Book.idleMisfit (b : Book) (f : Nat) : Bool :=
  (b.state == .ready || b.state == .pending) && !b.fits f

/-! ### The change to AGREED (R154) -/

/-- The record becomes AGREED and its new F is handed to the timebase as the next length (R8). -/
def State.recordAgreed (s : State) (p : Proposal) : State :=
  (s.setProposal (some { p with state := .agreed })).setTimebase
    { s.timebase with nextLength := some p.newF }

/-- The change to AGREED: the handover to the timebase, then the demotion of every READY or PENDING
book of every host that does not fit (R154). -/
def State.agree (s : State) (p : Proposal) : State :=
  (s.recordAgreed p).demoteWhere fun _ _ b => b.idleMisfit p.newF

/-! ### Endings (R157) -/

/-- Clear the record, and with an AGREED record the next length (R9, R157). -/
def State.clearProposal (s : State) : State :=
  match s.proposal with
  | some p =>
    let s' := s.setProposal none
    if p.state = .agreed then s'.setTimebase { s.timebase with nextLength := none } else s'
  | none => s

/-- A proposal ends without application: the record is cleared, and PROPOSAL_ENDED is posted to the
proposer and to each host still in the voter set (R157). -/
def State.endProposal (s : State) (p : Proposal) (o : ProposalOutcome) : State :=
  s.clearProposal.postAll
    ((allHosts.filter fun h => h == p.proposer || HostSet.has p.voters h).map fun h =>
      (h, .proposalEnded o))

/-! ### PROPOSE -/

/-- The least and greatest frame length (R2). -/
def minFrame : Nat := 16

def maxFrame : Nat := 16777216

/-- The voter set of an accepted PROPOSE (R149): every other host that holds a lane and whose port
is not held in reset. -/
def State.votersFor (s : State) (h : HostId) : HostSet :=
  HostSet.ofTest fun g => g != h && s.holdsLane g && !(s.port g).held

/-- The set with no host. -/
def HostSet.none : HostSet := HostSet.ofTest fun _ => false

/-- PROPOSE {new F, window} (R148, R149). -/
def proposeLength (h : HostId) (newF window : Nat) (s : State) : Answer :=
  if newF < minFrame ∨ maxFrame < newF ∨ window < 1 ∨ 64 < window then s.refuse .badArgument
  else if s.proposal.isSome then s.refuse .busy
  else if newF = s.timebase.f then s.refuse .badArgument
  else if !s.compiledBooksFit h newF then s.refuse .doesNotFit
  else
    let voters := s.votersFor h
    let p : Proposal := ⟨h, newF, window, voters, HostSet.none, .opened⟩
    if voters = HostSet.none then ⟨.agreed, .proposal newF window voters, s.agree p⟩
    else
      ⟨.accepted, .proposal newF window voters,
        (s.setProposal (some p)).postAll
          ((HostSet.toList voters).map fun g => (g, .proposalOpen h newF window))⟩

/-- PROPOSE, R148. -/
def execPropose (h : HostId) (seq : Byte) (payload : List Byte) (s : State) :
    Host.Outcome State Fault Refusal :=
  .next (s.take h seq 0x28 payload fun s =>
    match payload with
    | [f3, f2, f1, f0, window] => proposeLength h (ofBytes [f3, f2, f1, f0]) window.toNat s
    | _ => s.refuse .badArgument)

/-! ### VOTE and PROPOSAL WITHDRAW -/

/-- VOTE {yes or no} (R150). -/
def castVote (h : HostId) (yes : Bool) (s : State) : Answer :=
  match s.proposal with
  | none => s.refuse .noProposal
  | some p =>
    if !HostSet.has p.voters h || HostSet.has p.yes h then s.refuse .notVoter
    else if !yes then ⟨.done, .voteEnded .rejected, s.endProposal p .rejected⟩
    else if !s.compiledBooksFit h p.newF then s.refuse .doesNotFit
    else
      let p' : Proposal := { p with yes := HostSet.add p.yes h }
      if p'.yes = p'.voters then ⟨.agreed, .none, s.agree p'⟩
      else
        ⟨.done, .votersLeft ((HostSet.toList p'.voters).length - (HostSet.toList p'.yes).length),
          s.setProposal (some p')⟩

/-- VOTE, R150. -/
def execVote (h : HostId) (seq : Byte) (payload : List Byte) (s : State) :
    Host.Outcome State Fault Refusal :=
  .next (s.take h seq 0x29 payload fun s =>
    match payload with
    | [v] =>
      match voteOfByte v with
      | some yes => castVote h yes s
      | none => s.refuse .badArgument
    | _ => s.refuse .badArgument)

/-- PROPOSAL WITHDRAW (R151). -/
def withdrawProposal (h : HostId) (s : State) : Answer :=
  match s.proposal with
  | none => s.refuse .noProposal
  | some p =>
    if p.proposer ≠ h then s.refuse .noProposal
    else if p.state = .agreed then s.refuse .agreed
    else ⟨.done, .none, s.endProposal p .withdrawn⟩

/-- PROPOSAL WITHDRAW, R151. -/
def execProposalWithdraw (h : HostId) (seq : Byte) (payload : List Byte) (s : State) :
    Host.Outcome State Fault Refusal :=
  .next (s.take h seq 0x2A payload fun s => s.onNothing payload (withdrawProposal h s))

/-! ### Port reset of a host (R158, R159) -/

/-- The agreement unit's effect of a port reset of host `h`: a proposer's reset withdraws the
proposal, telling the voters still in the set; a voter's reset removes it from the sets, which may
make the record AGREED and, by R154, demote books of other hosts: DESIGN CHOICE,
notes/assumptions/28.md, between R159 with R154 and R61, by which a port reset of h changes no book of
another host. -/
def State.agreementReset (s : State) (h : HostId) : State :=
  match s.proposal with
  | none => s
  | some p =>
    if p.proposer = h then
      s.clearProposal.postAll
        ((HostSet.toList (HostSet.remove p.voters h)).map fun g => (g, .proposalEnded .withdrawn))
    else if HostSet.has p.voters h then
      let p' : Proposal :=
        { p with voters := HostSet.remove p.voters h, yes := HostSet.remove p.yes h }
      if p.state = .opened ∧ p'.yes = p'.voters then s.agree p'
      else s.setProposal (some p')
    else s

/-! ### The reaction to a boundary (R152, R155, R156) -/

/-- The record's sets without the voters that are lane-less (R147, R152 step 1). -/
def State.withoutLaneless (s : State) (p : Proposal) : Proposal :=
  { p with
    voters := HostSet.ofTest fun h => HostSet.has p.voters h && s.holdsLane h
    yes := HostSet.ofTest fun h => HostSet.has p.yes h && s.holdsLane h }

/-- The agreement unit's own step at a boundary: an AGREED record is applied (R156); an OPEN record
becomes AGREED, expires, or stays with its window reduced (R152). The second component is the
length agreed at this boundary, where the record becomes AGREED at it. -/
def State.proposalBoundary (s : State) : State × Option Nat :=
  match s.proposal with
  | none => (s, none)
  | some p =>
    match p.state with
    | .agreed =>
      ((s.setProposal none).postAll
        (allHosts.map fun h => (h, .frameLength p.newF s.timebase.frame)), none)
    | .opened =>
      let p' := s.withoutLaneless p
      if p'.yes = p'.voters then (s.recordAgreed p', some p'.newF)
      else if p'.window ≤ 1 then
        ((s.setProposal (some p')).endProposal p' .expired, none)
      else (s.setProposal (some { p' with window := p'.window - 1 }), none)

/-- The lengths a book that leaves ACTIVE must fit: the F in force, and the agreed length while the
record is AGREED (R155). -/
def State.lengthsRequired (s : State) : List Nat :=
  s.timebase.f ::
    match s.proposal with
    | some p => if p.state = .agreed then [p.newF] else []
    | none => []

/-- Book `b`, having left ACTIVE for READY, fits no longer what it must fit (R155). -/
def State.leaverMisfit (s : State) (b : Book) : Bool :=
  b.state == .ready && !s.lengthsRequired.all b.fits

/-- The agreement unit's reaction to a boundary, `left` being the books that have left ACTIVE at it
so far: the record first, then the demotions of R154 and R155, book A of a host first. -/
def State.agreementBoundary (s : State) (left : List (HostId × BookId)) : State :=
  let t := s.proposalBoundary
  t.1.demoteWhere fun h b bk =>
    (match t.2 with
      | some f => bk.idleMisfit f
      | none => false) ||
    (left.contains (h, b) && t.1.leaverMisfit bk)

end Sys2Proof.Machine
end

