-- ==== Sys2Proof/Machine/Books.lean ====
section
/-!
DEFINITION. The book gate and the editing and reading requests of chapter 3: CUE PUT, CUE DROP,
BOOK CLEAR, BOOK COPY and BOOK READ.
-/

namespace Sys2Proof.Machine

/-- Book `b` is the target of the host's open load. -/
def HostRecord.loadTarget (r : HostRecord) (b : BookId) : Bool := r.load.map (·.book) == some b

/-- The LATE rule covers book `b`: ALTERNATE mode, `b` the inactive book, turn counter 1 (R109). -/
def RunRecord.lateFor (r : RunRecord) (b : BookId) : Bool :=
  r.mode == .alternate && r.active != some b && r.turn == 1

/-- The book gate: `none` passes, otherwise the outcome of the refusal (R45). -/
def HostRecord.gate (r : HostRecord) (b : BookId) : Option ReplyCode :=
  match (r.book b).state with
  | .compiling => some .compiling
  | .pending => some .pending
  | .active => some .active
  | .draft => if r.loadTarget b then some .loading else none
  | .ready => if r.run.lateFor b then some .late else none

/-- Tests after the gate: run `f` where book `b` of host `h` passes the gate (R47). -/
def State.gated (s : State) (h : HostId) (b : BookId) (f : Answer) : Answer :=
  match (s.host h).gate b with
  | some c => s.refuse c
  | none => f

/-- An accepted edit leaves book `b` of host `h` DRAFT with cue list `cues`, without run list or
report, and the host's slot count `slots` (R41, R43, R46, R55). -/
def State.editBook (s : State) (h : HostId) (b : BookId) (cues : List Cue) (slots : Nat) : State :=
  s.setHost h
    (((s.host h).setBook b { ((s.host h).book b).edited with cues := cues }).setSlots slots)

/-- An accepted edit and its reply: DONE with the book's state and new length (R48 to R51). -/
def State.edited (s : State) (h : HostId) (b : BookId) (cues : List Cue) (slots : Nat) : Answer :=
  ⟨.done, .book .draft cues.length, s.editBook h b cues slots⟩

/-- CUE PUT {book, index, cue} with its arguments in range (R48). -/
def putCue (h : HostId) (b : BookId) (i : Nat) (c : Cue) (s : State) : Answer :=
  s.gated h b <|
    let cues := (s.book h b).cues
    let u := (s.host h).slots
    if i < cues.length then s.edited h b (cues.set i c) u
    else if i = cues.length ∧ cues.length < maxBook then
      if s.slotTest h 1 then s.edited h b (cues ++ [c]) (u + 1) else s.refuse .noSpace
    else s.refuse .badArgument

/-- CUE PUT, R48. -/
def execCuePut (h : HostId) (seq : Byte) (payload : List Byte) (s : State) :
    Host.Outcome State Fault Refusal :=
  .next (s.take h seq 0x10 payload fun s =>
    match payload with
    | book :: i1 :: i0 :: cue =>
      match bookOfByte book, cueOfBytes cue with
      | some b, some c => putCue h b (ofBytes [i1, i0]) c s
      | _, _ => s.refuse .badArgument
    | _ => s.refuse .badArgument)

/-- CUE DROP {book, index} (R49). -/
def dropCue (h : HostId) (b : BookId) (i : Nat) (s : State) : Answer :=
  s.gated h b <|
    let cues := (s.book h b).cues
    if i < cues.length then s.edited h b (cues.eraseIdx i) ((s.host h).slots - 1)
    else s.refuse .badArgument

/-- CUE DROP, R49. -/
def execCueDrop (h : HostId) (seq : Byte) (payload : List Byte) (s : State) :
    Host.Outcome State Fault Refusal :=
  .next (s.take h seq 0x11 payload fun s =>
    match payload with
    | [book, i1, i0] =>
      match bookOfByte book with
      | some b => dropCue h b (ofBytes [i1, i0]) s
      | none => s.refuse .badArgument
    | _ => s.refuse .badArgument)

/-- BOOK CLEAR {book} (R50). -/
def clearBook (h : HostId) (b : BookId) (s : State) : Answer :=
  s.gated h b <| s.edited h b [] ((s.host h).slots - (s.book h b).cues.length)

/-- BOOK CLEAR, R50. -/
def execBookClear (h : HostId) (seq : Byte) (payload : List Byte) (s : State) :
    Host.Outcome State Fault Refusal :=
  .next (s.take h seq 0x12 payload fun s => s.onBook payload (fun b => clearBook h b s))

/-- BOOK COPY {from, to} (R51, R52): the source's list as it stands; a slot test when the source is
longer than the target. -/
def copyBook (h : HostId) (src dst : BookId) (s : State) : Answer :=
  s.gated h dst <|
    let from' := (s.book h src).cues
    let to' := (s.book h dst).cues
    let u := (s.host h).slots
    if to'.length < from'.length then
      if s.slotTest h (from'.length - to'.length) then
        s.edited h dst from' (u + (from'.length - to'.length))
      else s.refuse .noSpace
    else s.edited h dst from' (u - (to'.length - from'.length))

/-- BOOK COPY, R51. -/
def execBookCopy (h : HostId) (seq : Byte) (payload : List Byte) (s : State) :
    Host.Outcome State Fault Refusal :=
  .next (s.take h seq 0x13 payload fun s =>
    match payload with
    | [src, dst] =>
      match bookOfByte src, bookOfByte dst with
      | some a, some b => copyBook h a b s
      | _, _ => s.refuse .badArgument
    | _ => s.refuse .badArgument)

/-- BOOK READ {book, first index, count} (R53): not an edit, and not gated. -/
def readBook (h : HostId) (b : BookId) (first count : Nat) (s : State) : Answer :=
  let x := s.book h b
  if 1 ≤ count ∧ count ≤ 4 ∧ first ≤ x.cues.length then
    ⟨.done, .bookRead x.state x.cues.length x.report ((x.cues.drop first).take count), s⟩
  else s.refuse .badArgument

/-- BOOK READ, R53. -/
def execBookRead (h : HostId) (seq : Byte) (payload : List Byte) (s : State) :
    Host.Outcome State Fault Refusal :=
  .next (s.take h seq 0x14 payload fun s =>
    match payload with
    | [book, i1, i0, count] =>
      match bookOfByte book with
      | some b => readBook h b (ofBytes [i1, i0]) count.toNat s
      | none => s.refuse .badArgument
    | _ => s.refuse .badArgument)

end Sys2Proof.Machine
end

