-- ==== Sys2Proof/Machine/Compiler.lean ====
section
/-!
DEFINITION. The compiler of chapter 5: COMPILE, COMPILE ABORT, the checks at completion, run-list
construction, and the completion event.
-/

namespace Sys2Proof.Machine

/-! ### COMPILE and COMPILE ABORT -/

/-- COMPILE {book} (R77, R78). -/
def startCompile (h : HostId) (b : BookId) (s : State) : Answer :=
  s.gated h b <|
    if s.jobs.any (fun j => j.host == h) then s.refuse .busy
    else
      let bk := s.book h b
      ⟨.accepted, .compiling b bk.cues.length s.jobs.length,
        (s.setBook h b { bk.edited with state := .compiling }).setJobs (s.jobs ++ [⟨h, b⟩])⟩

/-- COMPILE, R77. -/
def execCompile (h : HostId) (seq : Byte) (payload : List Byte) (s : State) :
    Host.Outcome State Fault Refusal :=
  .next (s.take h seq 0x1C payload fun s => s.onBook payload (fun b => startCompile h b s))

/-- Host `h`'s job leaves the queue; the jobs behind it keep their order (R88, R95). -/
def State.dropJob (s : State) (h : HostId) : State :=
  s.setJobs (s.jobs.filter fun j => j.host != h)

/-- COMPILE ABORT (R88). -/
def abortCompile (h : HostId) (s : State) : Answer :=
  match s.jobs.find? (fun j => j.host == h) with
  | none => s.refuse .nothingPending
  | some j =>
    ⟨.done, .bookOnly j.book, (s.setBook h j.book (s.book h j.book).edited).dropJob h⟩

/-- COMPILE ABORT, R88. -/
def execCompileAbort (h : HostId) (seq : Byte) (payload : List Byte) (s : State) :
    Host.Outcome State Fault Refusal :=
  .next (s.take h seq 0x1D payload fun s => s.onNothing payload (abortCompile h s))

/-! ### The checks at completion -/

/-- The lengths checked: the F in force, and the record's new F while the agreement unit holds a
record, OPEN or AGREED (R81, R93). -/
def State.lengthsChecked (s : State) : List Nat :=
  s.timebase.f :: (s.proposal.map (·.newF)).toList

/-- A failing check's report: the cue at fault with its tag, and the other cue of a SPACING failure
(R82, R83, R85). -/
def failReport (cues : List Cue) (o : ReportOutcome) (i : Nat) (second : Option Nat) : Report :=
  ⟨o, some i, second, cues[i]?.map (·.tag)⟩

/-- Ownership of a cue's lane: HELD or OFFERED, with the owner as holder (R82). -/
def LaneRecord.ownedBy (x : LaneRecord) (h : HostId) : Bool :=
  (x.state == .held || x.state == .offered) && x.holder == some h

/-- Ownership, then fit, of one cue: the outcome it fails with (R82). -/
def State.cueFailure (s : State) (h : HostId) (c : Cue) : Option ReportOutcome :=
  match c.lane? with
  | none => none
  | some l =>
    if !(s.lane l).ownedBy h then some .notHolder
    else if !s.lengthsChecked.all (fun f => c.fits f) then some .noFit
    else none

/-- The first check (R82): the first cue in index order that fails, from index `i` on. -/
def State.ownershipAndFit (s : State) (h : HostId) : Nat → List Cue → Option (Nat × ReportOutcome)
  | _, [] => none
  | i, c :: cs =>
    match s.cueFailure h c with
    | some o => some (i, o)
    | none => s.ownershipAndFit h (i + 1) cs

/-- The most NOTE cues a book may hold (R83). -/
def noteLimit : Nat := 16

/-- The indices of the NOTE cues in index order. -/
def noteIndices (cues : List Cue) : List Nat :=
  (List.range cues.length).filter fun i => (cues[i]?.map (·.action)) == some .note

/-- The second check (R83): the index of the seventeenth NOTE cue, where there is one. -/
def noteCheck (cues : List Cue) : Option Nat := (noteIndices cues)[noteLimit]?

/-- An action position of a lane: the position, whether it is a pulse end, and the index of its cue
(R84). -/
structure ActionAt where
  position : Nat
  isEnd : Bool
  index : Nat
  deriving DecidableEq, Repr

/-- The action positions of the cue at index `i` (R84). -/
def actionsOf (c : Cue) (i : Nat) : List ActionAt :=
  match c.action with
  | .pulse _ w => [⟨c.offset, false, i⟩, ⟨c.offset + w, true, i⟩]
  | _ => [⟨c.offset, false, i⟩]

/-- The order of action positions: ascending; at equal positions an offset before a pulse end, then
the cue of the lower index first (R84). -/
def ActionAt.before (a b : ActionAt) : Bool :=
  a.position < b.position ||
    (a.position == b.position &&
      ((!a.isEnd && b.isEnd) || (a.isEnd == b.isEnd && a.index ≤ b.index)))

/-- Insert into an ordered list, before the first element that must stand behind. -/
def insertBefore {α : Type} (before : α → α → Bool) (a : α) : List α → List α
  | [] => [a]
  | b :: bs => if before a b then a :: b :: bs else b :: insertBefore before a bs

/-- Order a list. -/
def orderBy {α : Type} (before : α → α → Bool) : List α → List α
  | [] => []
  | a :: as => insertBefore before a (orderBy before as)

/-- A lane's action positions from the book's cues on that lane, in order (R84). -/
def laneActions (cues : List Cue) (l : LaneId) : List ActionAt :=
  orderBy ActionAt.before
    ((List.range cues.length).flatMap fun i =>
      match cues[i]? with
      | some c => if c.lane? = some l then actionsOf c i else []
      | none => [])

/-- The spacing used on a lane: the larger of the spacing in force and the pending spacing (R84). -/
def LaneRecord.spacingUsed (x : LaneRecord) : Nat :=
  match x.pending with
  | some p => max x.settings.spacing p.spacing
  | none => x.settings.spacing

/-- The first neighbouring pair closer than `sp`: the cues of the later and the earlier action
(R85). -/
def closePair (sp : Nat) : List ActionAt → Option (Nat × Nat)
  | a :: b :: rest =>
    if b.position - a.position < sp then some (b.index, a.index) else closePair sp (b :: rest)
  | _ => none

/-- The wrap from the last action of a frame to the first of the next, for the first length at which
it is closer than `sp`: the cues of the first and of the last action (R85). -/
def closeWrap (sp : Nat) (lengths : List Nat) (as : List ActionAt) : Option (Nat × Nat) :=
  match as.head?, as.getLast? with
  | some a, some z =>
    if lengths.any (fun f => f + a.position - z.position < sp) then some (a.index, z.index)
    else none
  | _, _ => none

/-- The spacing check of one lane (R85): neighbouring pairs first, then the wraps. -/
def State.laneSpacing (s : State) (cues : List Cue) (l : LaneId) : Option (Nat × Nat) :=
  let as := laneActions cues l
  let sp := (s.lane l).spacingUsed
  (closePair sp as).or (closeWrap sp s.lengthsChecked as)

/-- The third check (R84, R85): lanes L0 to L15, the first pair that fails. -/
def State.spacingCheck (s : State) (cues : List Cue) : Option (Nat × Nat) :=
  allLanes.findSome? (s.laneSpacing cues)

/-- The report of a completion: the three checks in order, the first that fails deciding (R81, R86,
R87). -/
def State.compileReport (s : State) (h : HostId) (cues : List Cue) : Report :=
  match s.ownershipAndFit h 0 cues with
  | some (i, o) => failReport cues o i none
  | none =>
    match noteCheck cues with
    | some i => failReport cues .noteLimit i none
    | none =>
      match s.spacingCheck cues with
      | some (i, j) => failReport cues .spacing i (some j)
      | none => ⟨.ready, none, none, none⟩

/-- The run list: every cue's index, ordered by offset and, at equal offsets, by index (R42, R86). -/
def buildRunList (cues : List Cue) : List Nat :=
  (orderBy
    (fun a b : Nat × Nat => a.1 < b.1 || (a.1 == b.1 && a.2 ≤ b.2))
    ((List.range cues.length).filterMap fun i => cues[i]?.map fun c => (c.offset, i))).map (·.2)

/-- The book after its completion: READY with its run list, or DRAFT, with the report (R86, R87). -/
def Book.completed (b : Book) (r : Report) : Book :=
  if r.outcome = .ready then
    { b with state := .ready, runList := some (buildRunList b.cues), report := some r }
  else { b with state := .draft, runList := none, report := some r }

/-- The completion of job `j` (R81, R86, R87). -/
def State.completeJob (s : State) (j : Job) : State :=
  let r := s.compileReport j.host (s.book j.host j.book).cues
  ((s.setBook j.host j.book ((s.book j.host j.book).completed r)).setJobs s.jobs.tail).post
    j.host (.compileDone j.book r)

/-- COMPILE_COMPLETION, R81: the job in flight, at the head of the queue, completes; with an empty
queue there is no job to complete. -/
def execCompileCompletion (s : State) : Host.Outcome State Fault Refusal :=
  .next (match s.rstN, s.jobs with
    | true, j :: _ => s.completeJob j
    | _, _ => s)

end Sys2Proof.Machine
end

