-- ==== Sys2Proof/Machine/Handover.lean ====
section
/-!
DEFINITION. The offer requests of chapter 7: OFFER, WITHDRAW, DECLINE and ACCEPT.
-/

namespace Sys2Proof.Machine

/-- The lane is offered, or being handed over, to host `h` (R124, R125). -/
def LaneRecord.offeredTo (x : LaneRecord) (h : HostId) : Bool :=
  (x.state == .offered || x.state == .handover) && x.offer.map (·.target) == some h

/-- The offer on a lane ends and the lane is HELD by its giver again (R123, R124, R131, R134). -/
def Lane.offerEnded (x : Lane) : Lane := { x with state := .held, offer := none }

/-- OFFER {lane, target, expiry} with its arguments in range (R121, R122). -/
def offerLane (h : HostId) (l : LaneId) (target : HostId) (expiry : Nat) (s : State) : Answer :=
  let x := s.lane l
  if target = h then s.refuse .badArgument
  else if x.holder ≠ some h then s.refuse .notHolder
  else
    match x.state with
    | .free => s.refuse .notHolder
    | .retiring => s.refuse .retiring
    | .offered => s.refuse .offered
    | .handover => s.refuse .handover
    | .held =>
      if x.faultFlag then s.refuse .faulted
      else if (s.port target).held then s.refuse .badArgument
      else
        ⟨.done, .offer l target expiry,
          (s.setLane l { x with state := .offered, offer := some ⟨target, some expiry⟩ }).post
            target (.offerMade l h expiry)⟩

/-- OFFER, R121. -/
def execOffer (h : HostId) (seq : Byte) (payload : List Byte) (s : State) :
    Host.Outcome State Fault Refusal :=
  .next (s.take h seq 0x06 payload fun s =>
    match payload with
    | [lane, target, expiry] =>
      match laneOfByte lane, hostOfByte target, inRange 1 64 expiry.toNat with
      | some l, some t, some e => offerLane h l t e s
      | _, _, _ => s.refuse .badArgument
    | _ => s.refuse .badArgument)

/-- WITHDRAW {lane} (R123). -/
def withdrawOffer (h : HostId) (l : LaneId) (s : State) : Answer :=
  let x := s.lane l
  if x.holder ≠ some h then s.refuse .notHolder
  else if x.state = .handover then s.refuse .handover
  else
    match x.state, x.offer with
    | .offered, some o =>
      ⟨.done, .laneHost l o.target,
        (s.setLane l x.offerEnded).post o.target (.offerEnded l .withdrawn)⟩
    | _, _ => s.refuse .noOffer

/-- WITHDRAW, R123. -/
def execWithdraw (h : HostId) (seq : Byte) (payload : List Byte) (s : State) :
    Host.Outcome State Fault Refusal :=
  .next (s.take h seq 0x07 payload fun s => s.onLane payload (fun l => withdrawOffer h l s))

/-- DECLINE {lane} (R124). -/
def declineOffer (h : HostId) (l : LaneId) (s : State) : Answer :=
  let x := s.lane l
  if !x.offeredTo h then s.refuse .noOffer
  else
    match x.state, x.holder with
    | .offered, some g =>
      ⟨.done, .laneHost l g, (s.setLane l x.offerEnded).post g (.offerEnded l .declined)⟩
    | _, _ => s.refuse .handover

/-- DECLINE, R124. -/
def execDecline (h : HostId) (seq : Byte) (payload : List Byte) (s : State) :
    Host.Outcome State Fault Refusal :=
  .next (s.take h seq 0x08 payload fun s => s.onLane payload (fun l => declineOffer h l s))

/-- ACCEPT {lane} (R125). -/
def acceptOffer (h : HostId) (l : LaneId) (s : State) : Answer :=
  let x := s.lane l
  if !x.offeredTo h then s.refuse .noOffer
  else
    match x.state, x.holder with
    | .offered, some g =>
      ⟨.done, .accepted l g (s.timebase.frame + 1),
        s.setLane l { x with state := .handover, offer := some ⟨h, none⟩ }⟩
    | _, _ => s.refuse .handover

/-- ACCEPT, R125. -/
def execAccept (h : HostId) (seq : Byte) (payload : List Byte) (s : State) :
    Host.Outcome State Fault Refusal :=
  .next (s.take h seq 0x09 payload fun s => s.onLane payload (fun l => acceptOffer h l s))

end Sys2Proof.Machine
end

