-- ==== Sys2Proof/Machine/Loading.lean ====
section
/-!
DEFINITION. The load unit of chapter 4: LOAD OPEN, LOAD CUES, LOAD CANCEL, rollback, and the idle
count at a boundary.
-/

namespace Sys2Proof.Machine

/-- LOAD OPEN {book, count} with its arguments in range (R64, R65). -/
def openLoad (h : HostId) (b : BookId) (n : Nat) (s : State) : Answer :=
  s.gated h b <|
    let r := s.host h
    let len := (r.book b).cues.length
    if maxBook < len + n then s.refuse .badArgument
    else if r.load.isSome then s.refuse .busy
    else if !s.slotTest h n then s.refuse .noSpace
    else
      ⟨.done, .loadOpened b len n,
        s.setHost h
          (((r.setBook b (r.book b).edited).setSlots (r.slots + n)).setLoad
            (some ⟨b, n, 0, len, 0⟩))⟩

/-- LOAD OPEN, R64. -/
def execLoadOpen (h : HostId) (seq : Byte) (payload : List Byte) (s : State) :
    Host.Outcome State Fault Refusal :=
  .next (s.take h seq 0x18 payload fun s =>
    match payload with
    | [book, n1, n0] =>
      match bookOfByte book, inRange 1 512 (ofBytes [n1, n0]) with
      | some b, some n => openLoad h b n s
      | _, _ => s.refuse .badArgument
    | _ => s.refuse .badArgument)

/-- LOAD CUES {cues} whose cues pass R38 (R66 to R68). -/
def feedLoad (h : HostId) (cues : List Cue) (s : State) : Answer :=
  let r := s.host h
  match r.load with
  | none => s.refuse .noLoad
  | some ld =>
    if ld.declared - ld.received < cues.length then s.refuse .badArgument
    else
      let bk := r.book ld.book
      let bk' : Book := { bk with cues := bk.cues ++ cues }
      let received := ld.received + cues.length
      if received < ld.declared then
        ⟨.done, .loadProgress ld.book received (ld.declared - received),
          s.setHost h
            ((r.setBook ld.book bk').setLoad (some { ld with received := received, idle := 0 }))⟩
      else
        ⟨.complete, .loadComplete ld.book bk'.cues.length,
          s.setHost h ((r.setBook ld.book bk').setLoad none)⟩

/-- LOAD CUES, R66. -/
def execLoadCues (h : HostId) (seq : Byte) (payload : List Byte) (s : State) :
    Host.Outcome State Fault Refusal :=
  .next (s.take h seq 0x19 payload fun s =>
    match cueChunks payload with
    | none => s.refuse .badArgument
    | some chunks =>
      match cuesOfChunks chunks with
      | .error k => s.refuseWith (.badArgument, .failingCue k)
      | .ok cues => feedLoad h cues s)

/-- The rollback of a load (R69): the target's cues at and above the length at open are removed, the
slot count falls by the declared count, and the load context is removed. -/
def HostRecord.rollBack (r : HostRecord) (ld : Load) : HostRecord :=
  let bk := r.book ld.book
  ((r.setBook ld.book { bk with cues := bk.cues.take ld.lengthAtOpen }).setSlots
    (r.slots - ld.declared)).setLoad none

/-- LOAD CANCEL (R70). -/
def cancelLoad (h : HostId) (s : State) : Answer :=
  match (s.host h).load with
  | none => s.refuse .noLoad
  | some ld =>
    let r := (s.host h).rollBack ld
    ⟨.done, .loadCancelled ld.book ld.received (r.book ld.book).cues.length, s.setHost h r⟩

/-- LOAD CANCEL, R70. -/
def execLoadCancel (h : HostId) (seq : Byte) (payload : List Byte) (s : State) :
    Host.Outcome State Fault Refusal :=
  .next (s.take h seq 0x1A payload fun s => s.onNothing payload (cancelLoad h s))

/-- The idle boundaries at which a load times out (R71). -/
def idleLimit : Nat := 8

/-- The load unit's reaction to a boundary for host `h` (R71). -/
def State.loadBoundary (s : State) (h : HostId) : State :=
  match (s.host h).load with
  | none => s
  | some ld =>
    if ld.idle + 1 < idleLimit then
      s.setHost h ((s.host h).setLoad (some { ld with idle := ld.idle + 1 }))
    else
      (s.setHost h ((s.host h).rollBack ld)).post h (.loadTimeout ld.book ld.received)

end Sys2Proof.Machine
end

