-- ==== Sys2Proof/Machine/Monitor.lean ====
section
/-!
DEFINITION. The readback monitor of chapter 8: the comparison, a fault, the boundary check, and
FAULT CLEAR.
-/

namespace Sys2Proof.Machine

/-- The fault limit: 3 faults per holding. -/
def faultLimit : Nat := 3

/-- A fault recorded on lane `l` (R140, R131): flag, count and record; the lane inactive with no
pulse end and no pending check; LANE_FAULT to the holder; an offer, where OFFERED, ended with
OFFER_ENDED {FAULT} to giver and target. -/
def Lane.fault (l : LaneId) (frame : Word32) (position : Nat) (observed : Bool) (x : Lane) :
    Lane × Posts :=
  let y : Lane :=
    { x with
      faultFlag := true, faultCount := x.faultCount + 1
      faultRecord := some ⟨frame, position, x.pin, observed⟩
      level := false, pulseEnd := none, check := none }
  let told : Posts := x.holder.toList.map fun g => (g, .laneFault l (x.faultCount + 1))
  match x.state, x.offer with
  | .offered, some o =>
    (y.offerEnded,
      told ++ (x.holder.toList.map fun g => (g, .offerEnded l .fault)) ++
        [(o.target, .offerEnded l .fault)])
  | _, _ => (y, told)

/-- A check of lane `l` (R136, R138): RBKn against the pin; a match changes nothing, a mismatch is a
fault; a lane that is not watched is not checked. -/
def Lane.compare (l : LaneId) (frame : Word32) (position : Nat) (observed : Bool) (x : Lane) :
    Lane × Posts :=
  if x.watched && x.pin != observed then x.fault l frame position observed else (x, [])

/-- A check of lane `l` now, against the RBK levels last sampled. -/
def State.checkLane (s : State) (l : LaneId) : State :=
  s.reactLane l (Lane.compare l s.timebase.frame s.timebase.position (s.rbk.getLsbD l.val))

/-- The monitor's reaction to a boundary on lane `l`: every watched lane that has no pending check
is checked, at position 0 of the frame that begins (R10, R139). -/
def Lane.boundaryCheck (l : LaneId) (frame : Word32) (observed : Bool) (x : Lane) : Lane × Posts :=
  if x.check.isNone then x.compare l frame 0 observed else (x, [])

/-- The boundary check of lane `l`, against the RBK levels last sampled. -/
def State.boundaryCheck (s : State) (l : LaneId) : State :=
  s.reactLane l (Lane.boundaryCheck l s.timebase.frame (s.rbk.getLsbD l.val))

/-- FAULT CLEAR {lane} (R142). -/
def clearFault (h : HostId) (l : LaneId) (s : State) : Answer :=
  let x := s.lane l
  if x.holder ≠ some h then s.refuse .notHolder
  else
    match x.state with
    | .retiring => s.refuse .retiring
    | .handover => s.refuse .handover
    | _ =>
      if !x.faultFlag then s.refuse .notFaulted
      else if faultLimit ≤ x.faultCount then s.refuse .faultLimit
      else
        let y : Lane := { x with faultFlag := false }
        ⟨.done, .faultCount l x.faultCount, s.setLane l (y.drive false none).schedule⟩

/-- FAULT CLEAR, R142. -/
def execFaultClear (h : HostId) (seq : Byte) (payload : List Byte) (s : State) :
    Host.Outcome State Fault Refusal :=
  .next (s.take h seq 0x0A payload fun s => s.onLane payload (fun l => clearFault h l s))

end Sys2Proof.Machine
end

