-- ==== Sys2Proof/Config.lean ====
section
/-!
DEFINITION. The free values: what the manual leaves open and the model does not choose.
-/

namespace Sys2Proof

/-- The value of byte `index` of the result or subject fields of message number `draw`, where the
field that byte belongs to is absent and the manual states no value for an absent field (an absent
pulse end, pending settings, boundaries remaining or fault record of a lane record; the width of a
cue that has none; the tag of a report that has none). No body: nothing in the model can tell its
value. DESIGN CHOICE, notes/assumptions/12.md. -/
opaque Config.absentByte (draw index : Nat) : Byte

end Sys2Proof
end

