-- ==== Sys2Proof/Machine/Flags.lean ====
section
/-!
DEFINITION. The codes and flag bytes of the link (10.7): how states, modes, reasons, flags and
presence bits are encoded.
-/

namespace Sys2Proof.Machine

/-- A bit at its place in a byte. -/
def bit (b : Bool) (n : Nat) : Nat := if b then 2 ^ n else 0

/-- A host, 0xFF absent. -/
def hostCode : Option HostId → Nat
  | some h => h.val
  | none => 0xFF

/-- A book, 0xFF none. -/
def bookCode : Option BookId → Nat
  | some .A => 0
  | some .B => 1
  | none => 0xFF

def BookState.code : BookState → Nat
  | .draft => 0
  | .compiling => 1
  | .ready => 2
  | .pending => 3
  | .active => 4

/-- The state byte of a SWAP reply; 0xFF names no state (R99). -/
def bookStateByte : Option BookState → Nat
  | some st => st.code
  | none => 0xFF

def LaneState.code : LaneState → Nat
  | .free => 0
  | .held => 1
  | .offered => 2
  | .handover => 3
  | .retiring => 4

def ReportOutcome.code : ReportOutcome → Nat
  | .ready => 1
  | .notHolder => 2
  | .noFit => 3
  | .noteLimit => 4
  | .spacing => 5

/-- The outcome of a report, 0 none. -/
def reportCode : Option Report → Nat
  | some r => r.outcome.code
  | none => 0

def Mode.code : Mode → Nat
  | .single => 0
  | .alternate => 1

def PendingAction.code : PendingAction → Nat
  | .none => 0
  | .swapTo .A => 1
  | .swapTo .B => 2
  | .halt => 3

def OfferReason.code : OfferReason → Nat
  | .withdrawn => 0
  | .declined => 1
  | .expired => 2
  | .fault => 3
  | .reset => 4

def ProposalOutcome.code : ProposalOutcome → Nat
  | .rejected => 0
  | .expired => 1
  | .withdrawn => 2

def ProposalState.code : ProposalState → Nat
  | .opened => 1
  | .agreed => 2

/-- The outcome codes 0x00 to 0x1E. -/
def ReplyCode.code : ReplyCode → Nat
  | .done => 0x00
  | .accepted => 0x01
  | .complete => 0x02
  | .agreed => 0x03
  | .badRequest => 0x04
  | .badArgument => 0x05
  | .notHolder => 0x06
  | .held => 0x07
  | .alreadyHeld => 0x08
  | .retiring => 0x09
  | .offered => 0x0A
  | .handover => 0x0B
  | .inUse => 0x0C
  | .faulted => 0x0D
  | .notFaulted => 0x0E
  | .faultLimit => 0x0F
  | .noOffer => 0x10
  | .compiling => 0x11
  | .pending => 0x12
  | .active => 0x13
  | .alreadyActive => 0x14
  | .loading => 0x15
  | .noLoad => 0x16
  | .late => 0x17
  | .mode => 0x18
  | .busy => 0x19
  | .nothingPending => 0x1A
  | .noSpace => 0x1B
  | .doesNotFit => 0x1C
  | .notVoter => 0x1D
  | .noProposal => 0x1E

def Admission.code : Admission → Byte
  | .none => 0x00
  | .accepted => 0x01
  | .full => 0x02
  | .crc => 0x03
  | .length => 0x04
  | .short => 0x05

/-- A host set: bit n set for host Hn. -/
def HostSet.code (x : HostSet) : Nat := ((allHosts.filter (HostSet.has x)).map fun h => 2 ^ h.val).sum

/-- The settings flags: bit 0 active-low, bit 1 readback on. -/
def Settings.flags (x : Settings) : Nat := bit (x.polarity == .activeLow) 0 + bit x.readback 1

/-- Byte 8 of a lane record. Bits 6 and 7 are free where no fault record is kept
(notes/assumptions/12.md). -/
def LaneRecord.flags (r : LaneRecord) (free : Byte) : Nat :=
  bit r.level 0 + bit r.pending.isSome 1 + bit r.pulseEnd.isSome 2 + bit r.offer.isSome 3 +
    bit r.faultFlag 4 + bit r.faultRecord.isSome 5 +
    match r.faultRecord with
    | some x => bit x.expectedHigh 6 + bit x.observedHigh 7
    | none => (free &&& 0xC0).toNat

/-- The requests waiting in the inbound queue plus the replies waiting in the reply queue: the
credits in use (R167). -/
def Port.creditsUsed (p : Port) : Nat := p.inbound.length + p.replies.length

/-- Each port has 3 credits (R167). -/
def portCredits : Nat := 3

/-- The free credits (R161). -/
def Port.freeCredits (p : Port) : Nat := portCredits - p.creditsUsed

/-- The port flags, byte 1 of the return frame: bit 7 reply waiting, bit 6 notice waiting, bits 5-4
free credits (R161). -/
def Port.flags (p : Port) : Nat :=
  bit (!p.replies.isEmpty) 7 + bit (!p.notices.isEmpty) 6 + p.freeCredits * 16

/-- ATTN[h] is high while the port has a reply or notice waiting, and low while the port is held in
reset or RST_n is low (R165, R171, R173). -/
def State.attn (s : State) (h : HostId) : Bool :=
  s.rstN && !(s.port h).held && !((s.port h).replies.isEmpty && (s.port h).notices.isEmpty)

end Sys2Proof.Machine
end

