-- ==== Sys2Proof/Machine/Link.lean ====
section
/-!
DEFINITION. The byte layouts of the messages and of the return frame (10.7). Where a field is
absent and the manual states no value for it, its bytes are the free values `Config.absentByte`
(notes/assumptions/12.md); `free i` below is the free value of byte i of the fields.
-/

namespace Sys2Proof.Machine

/-- Two free bytes from place `i`. -/
def free2 (free : Nat → Byte) (i : Nat) : List Byte := [free i, free (i + 1)]

/-- An index of a report, 0xFFFF absent. -/
def indexBytes : Option Nat → List Byte
  | some i => be16 i
  | none => be16 0xFFFF

/-- Cue index, second index and tag of a report whose tag stands at place `i`; with no report, or
with none of them present, the indices are 0xFFFF and the tag's bytes are free. -/
def reportFields (r : Option Report) (free : Nat → Byte) (i : Nat) : List Byte :=
  indexBytes (r.bind (·.index)) ++ indexBytes (r.bind (·.second)) ++
    match r.bind (·.tag) with
    | some t => be16 t.toNat
    | none => free2 free i

/-- Byte 0 of a cue. -/
def cueHead : Action → Nat
  | .rise l => l.val
  | .fall l => 0x40 + l.val
  | .pulse l _ => 0x80 + 0x20 + l.val
  | .note => 0xC0 + 31

/-- The ten bytes of a cue that stands at place `i`. -/
def Cue.bytes (c : Cue) (free : Nat → Byte) (i : Nat) : List Byte :=
  be8 (cueHead c.action) ++ be24 c.offset ++
    (match c.action with
    | .pulse _ w => be16 w
    | _ => free2 free (i + 4)) ++
    be8 c.every ++ be8 c.phase ++ be16 c.tag.toNat

/-- Cues one after another from place `i`. -/
def cuesBytes (free : Nat → Byte) : Nat → List Cue → List Byte
  | _, [] => []
  | i, c :: cs => c.bytes free i ++ cuesBytes free (i + 10) cs

/-- The settings bytes. -/
def Settings.bytes (x : Settings) : List Byte := be8 x.flags ++ be8 x.spacing ++ be8 x.settle

/-- The lane record, 24 bytes. -/
def LaneRecord.bytes (r : LaneRecord) (free : Nat → Byte) : List Byte :=
  be8 r.state.code ++ be8 (hostCode r.holder) ++ r.settings.bytes ++
    (match r.pending with
    | some x => x.bytes
    | none => [free 5, free 6, free 7]) ++
    be8 (r.flags (free 8)) ++
    (match r.pulseEnd with
    | some e => be32 e
    | none => [free 9, free 10, free 11, free 12]) ++
    be8 (hostCode (r.offer.map (·.target))) ++
    (match r.offer with
    | some o => be8 (o.remaining.getD 0)
    | none => [free 14]) ++
    be8 r.faultCount ++
    match r.faultRecord with
    | some x => be32 x.frame.toNat ++ be32 x.position
    | none => [free 16, free 17, free 18, free 19, free 20, free 21, free 22, free 23]

/-- Bytes 12 to 18 of the status block; 0 with no record (R181). -/
def proposalBytes : Option Proposal → List Byte
  | some p =>
    be8 (p.state.code * 64 + p.proposer.val) ++ be32 p.newF ++ be8 p.window ++
      be8 (HostSet.code p.yes * 16 + HostSet.code p.voters)
  | none => [0, 0, 0, 0, 0, 0, 0]

/-- Byte 44 of the status block. -/
def RunRecord.flags (r : RunRecord) : Nat :=
  r.mode.code * 128 +
    (match r.active with
    | some .A => 0
    | some .B => 1
    | none => 3) * 16 +
    r.action.code

/-- The status block, 48 bytes. -/
def StatusBlock.bytes (b : StatusBlock) : List Byte :=
  be32 b.frame.toNat ++ be32 b.position ++ be32 b.f ++ proposalBytes b.proposal ++
    (b.lanes.toList.flatMap fun x =>
      be8 (x.1.code * 32 + (match x.2 with
        | some h => h.val
        | none => 0))) ++
    be8 (b.stateA.code * 16 + b.stateB.code) ++ be16 b.lengthA ++ be16 b.lengthB ++
    be16 b.slots ++ be16 b.commonFree ++ be8 b.run.flags ++ be8 b.run.runA ++ be8 b.run.runB ++
    be8 b.run.turn

/-- The result fields of a reply. -/
def Result.bytes (free : Nat → Byte) : Result → List Byte
  | .none => []
  | .status b => b.bytes
  | .lanes m => be16 m.toNat
  | .lane l => be8 l.val
  | .laneHost l h => be8 l.val ++ be8 h.val
  | .laneRecord r => r.bytes free
  | .offer l t e => be8 l.val ++ be8 t.val ++ be8 e
  | .accepted l g n => be8 l.val ++ be8 g.val ++ be32 n.toNat
  | .faultCount l n => be8 l.val ++ be8 n
  | .book st n => be8 st.code ++ be16 n
  | .bookRead st n r cs =>
    be8 (st.code * 16 + reportCode r) ++ be16 n ++ reportFields r free 7 ++ cuesBytes free 9 cs
  | .loadOpened b l n => be8 (bookCode (some b)) ++ be16 l ++ be16 n
  | .loadProgress b r n => be8 (bookCode (some b)) ++ be16 r ++ be16 n
  | .loadComplete b n => be8 (bookCode (some b)) ++ be16 n
  | .failingCue k => be8 k
  | .loadCancelled b r n => be8 (bookCode (some b)) ++ be16 r ++ be16 n
  | .compiling b n a => be8 (bookCode (some b)) ++ be16 n ++ be8 a
  | .bookOnly b => be8 (bookCode (some b))
  | .swap b st n => be8 (bookCode (some b)) ++ be8 st.code ++ be32 n.toNat
  | .swapRefused b st => be8 (bookCode b) ++ be8 (bookStateByte st)
  | .halt b n => be8 (bookCode (some b)) ++ be32 n.toNat
  | .mode m a t => be8 m.code ++ be8 (bookCode a) ++ be8 t
  | .proposal f w v => be32 f ++ be8 w ++ be8 (HostSet.code v)
  | .voteEnded o => be8 o.code
  | .votersLeft n => be8 n

/-- The kind of a notice. -/
def NoticeBody.kind : NoticeBody → Nat
  | .cueReached _ => 0x01
  | .bookActive _ => 0x02
  | .turnSkipped _ _ => 0x03
  | .halted _ => 0x04
  | .compileDone _ _ => 0x05
  | .bookDemoted _ => 0x06
  | .loadTimeout _ _ => 0x07
  | .laneFreed _ => 0x08
  | .offerMade _ _ _ => 0x09
  | .offerEnded _ _ => 0x0A
  | .handoverDone _ _ _ => 0x0B
  | .laneFault _ _ => 0x0C
  | .proposalOpen _ _ _ => 0x0D
  | .proposalEnded _ => 0x0E
  | .frameLength _ _ => 0x0F
  | .overflow _ => 0x10

/-- The subject fields of a notice. -/
def NoticeBody.bytes (free : Nat → Byte) : NoticeBody → List Byte
  | .cueReached t => be16 t.toNat
  | .bookActive b => be8 (bookCode (some b))
  | .turnSkipped b st => be8 (bookCode (some b)) ++ be8 st.code
  | .halted b => be8 (bookCode (some b))
  | .compileDone b r =>
    be8 (bookCode (some b)) ++ be8 r.outcome.code ++ reportFields (some r) free 6
  | .bookDemoted b => be8 (bookCode (some b))
  | .loadTimeout b n => be8 (bookCode (some b)) ++ be16 n
  | .laneFreed l => be8 l.val
  | .offerMade l g e => be8 l.val ++ be8 g.val ++ be8 e
  | .offerEnded l r => be8 l.val ++ be8 r.code
  | .handoverDone l g t => be8 l.val ++ be8 g.val ++ be8 t.val
  | .laneFault l n => be8 l.val ++ be8 n
  | .proposalOpen p f w => be8 p.val ++ be32 f ++ be8 w
  | .proposalEnded o => be8 o.code
  | .frameLength f n => be32 f ++ be32 n.toNat
  | .overflow n => be8 n

/-- A reply message: sequence number, request code and outcome, then its result fields. -/
def Reply.bytes (r : Reply) : List Byte :=
  r.seq :: r.code :: be8 r.outcome.code ++ r.result.bytes (Config.absentByte r.draw)

/-- A notice message: kind, frame number at posting and repeat count, then its subject fields. -/
def Notice.bytes (n : Notice) : List Byte :=
  be8 n.body.kind ++ be32 n.frame.toNat ++ be8 n.repeats ++
    n.body.bytes (Config.absentByte n.draw)

/-- The message class. -/
def Named.code : Named → Nat
  | .nothing => 0
  | .reply => 1
  | .notice => 2

/-- The head of the outbound stream: the oldest reply, otherwise the oldest notice (R165). -/
def Port.head (p : Port) : Named × List Byte :=
  match p.replies, p.notices with
  | r :: _, _ => (.reply, r.bytes)
  | [], n :: _ => (.notice, n.bytes)
  | [], [] => (.nothing, [])

/-- Bytes of all ones, up to `n` in all (R160, 10.7). -/
def padTo (n : Nat) (bs : List Byte) : List Byte := bs ++ List.replicate (n - bs.length) 0xFF

/-- The bytes of a complete transaction in each direction (R160). -/
def frameBytes : Nat := 56

/-- The return frame with bytes 0 and 1 as fixed at the fall of CS_n (R161). -/
def returnFrame (b0 b1 : Byte) (head : Named × List Byte) : List Byte :=
  let covered := b0 :: b1 :: be8 (head.1.code * 64 + head.2.length) ++ head.2
  padTo frameBytes (covered ++ [crc8 covered])

end Sys2Proof.Machine
end

