-- ==== Sys2Proof/Machine/Resets.lean ====
section
/-!
DEFINITION. The resets (1.4): what a port reset of one host does in every block (R170), and
power-on reset (R12, R173).
-/

namespace Sys2Proof.Machine

/-! ### The port (R170) -/

/-- A transaction in progress is no longer taken; `sent` of its bytes have been shifted out by then,
and SDO is high for the rest (R171, R173). -/
def Link.abandon (x : Link) (sent : Nat) : Link :=
  match x with
  | .idle => .idle
  | .selected b0 b1 => .lost ([b0, b1].take sent)
  | .offering _ f _ => .lost (f.take sent)
  | .lost bs => .lost bs

/-- The port's own part of a port reset: the queues emptied, acknowledgment state none, last
admission status NONE (R170). -/
def Port.cleared (p : Port) : Port :=
  { p with inbound := [], replies := [], notices := [], ack := .nothing, admission := .none }

/-! ### The lane table (R35, R133, R134) -/

/-- A lane at a port reset of host `h`; `giverHeld` says whether the port of the lane's holder is
held in reset by PRST_n (R134). OFFER_ENDED is posted to such a giver too, and discarded at posting:
DESIGN CHOICE, notes/assumptions/27.md, between R134, by which the giver receives it, and R171. -/
def Lane.atPortReset (l : LaneId) (h : HostId) (giverHeld : Bool) (x : Lane) : Lane × Posts :=
  match x.state, x.holder, x.offer with
  | .held, some g, _ => if g = h then (x.retire, []) else (x, [])
  | .offered, some g, some o =>
    if g = h then ({ x.retire with offer := none }, [(o.target, .offerEnded l .reset)])
    else if o.target = h then (x.offerEnded, [(g, .offerEnded l .reset)])
    else (x, [])
  | .handover, some g, some o =>
    if g ≠ h ∧ o.target = h then
      (if giverHeld then { x.retire with offer := none } else x.offerEnded,
        [(g, .offerEnded l .reset)])
    else (x, [])
  | _, _, _ => (x, [])

/-- The port of the lane's holder is held in reset. -/
def State.giverHeld (s : State) (l : LaneId) : Bool :=
  match (s.lane l).holder with
  | some g => (s.port g).held
  | none => false

/-- The lane table's effect of a port reset of host `h`, in lane order (R35, R175). -/
def State.lanesReset (s : State) (h : HostId) : State :=
  allLanes.foldl (fun s l => s.reactLane l (Lane.atPortReset l h (s.giverHeld l))) s

/-! ### A port reset (R170) -/

/-- The reset of host `h`'s session in the blocks other than its port: books, slot count, load and
run record at their initial values (R60, R74, R118), its compile job removed (R95), its lanes and
offers (R35, R133, R134) and the proposal record (R158, R159). The two that post notices are taken
in either order (R175). -/
def State.resetBlocks (s : State) (h : HostId) (agreementFirst : Bool) : State :=
  let s' := (s.setHost h .initial).dropJob h
  if agreementFirst then (s'.agreementReset h).lanesReset h
  else (s'.lanesReset h).agreementReset h

/-- A port reset of host `h`: its port's queues are emptied and its session is reset in every block
at the same moment (R170). -/
def State.portReset (s : State) (h : HostId) (agreementFirst : Bool) : State :=
  (s.setPort h (s.port h).cleared).resetBlocks h agreementFirst

/-! ### The reset pins -/

/-- PRST_N_LOW, R171: the fall of PRST_n resets the host's session and holds the port in reset; a
transaction in progress is abandoned. With the pin low already there is no fall. -/
def execPrstNLow (h : HostId) (sent : Nat) (agreementFirst : Bool) (s : State) :
    Host.Outcome State Fault Refusal :=
  .next (if (s.port h).held then s
    else
      let p := s.port h
      let s' := s.setPort h { p with held := true, link := p.link.abandon sent }
      if s.rstN then s'.portReset h agreementFirst else s')

/-- PRST_N_RISE, R171: the port leaves reset with empty queues, acknowledgment state none and last
admission status NONE; a transaction already in progress is not taken. -/
def execPrstNRise (h : HostId) (s : State) : Host.Outcome State Fault Refusal :=
  .next (if (s.port h).held then s.setPort h { (s.port h).cleared with held := false } else s)

/-- A port when RST_n falls: its power-on values, its pins as they are (R173). A transaction in
progress is not taken further; `sent` of its bytes were shifted out before the fall, and those stand
in what it shows. -/
def Port.poweredOn (p : Port) (sent : Nat) : Port :=
  { Port.powerOn with held := p.held, link := p.link.abandon sent }

/-- POWER_ON_RESET, R173: every block is held at its power-on values; the RBK and PRST_n pins, and
the commands that wait, are not the part's to reset. `sent` counts, for each port, the bytes of a
transaction in progress shifted out before RST_n fell. -/
def execPowerOnReset (s : State) (sent : Vector Nat 4 := Vector.replicate 4 0) :
    Host.Outcome State Fault Refusal :=
  .next
    { State.reset with
      rstN := false
      rbk := s.rbk
      ports := Vector.ofFn fun h => (s.port h).poweredOn (sent.get h)
      draws := s.draws
      pending := s.pending }

/-- RST_N_RELEASE, R12: RST_n goes high and frame 0 begins at position 0; this is no boundary, and
every value stays as the reset holds it. -/
def execRstNRelease (s : State) : Host.Outcome State Fault Refusal := .next (s.setRstN true)

end Sys2Proof.Machine
end

