-- ==== Sys2Proof/Machine/Ports.lean ====
section
/-!
DEFINITION. Transactions on a host port (10.1 to 10.3): the fall of CS_n, the control byte and the
acknowledgment, admission at the rise of CS_n, and the return frame.
-/

namespace Sys2Proof.Machine

/-! ### The control byte (R162) -/

/-- The control byte is valid: byte 1 is its bitwise complement. -/
def controlValid (b0 b1 : Byte) : Bool := b1 == ~~~b0

/-- The kind of a frame: an invalid control byte and the fourth kind code are treated as NULL. -/
def controlKind (b0 b1 : Byte) : FrameKind :=
  if controlValid b0 b1 then
    if b0 &&& 3 = 1 then .request else if b0 &&& 3 = 2 then .portReset else .null
  else .null

/-- The frame carries a valid ACK: bit 7 of a valid control byte. -/
def controlAck (b0 b1 : Byte) : Bool := controlValid b0 b1 && b0.getLsbD 7

/-- A valid ACK removes the message the acknowledgment state names, and sets the state to none; it
has no effect when the state is none (R163). -/
def Port.acknowledge (p : Port) : Port :=
  match p.ack with
  | .nothing => p
  | .reply => { p with replies := p.replies.tail, ack := .nothing }
  | .notice => { p with notices := p.notices.tail, ack := .nothing }

/-! ### The moments of a transaction -/

/-- CS_n falls: bytes 0 and 1 of the return frame are fixed (R161). While the port is held in reset,
and while RST_n is low (`rstN` false), it takes no transaction (R171, R173). With CS_n low already
there is no fall. -/
def Port.select (rstN : Bool) (p : Port) : Port :=
  match p.link with
  | .idle =>
    if rstN && !p.held then
      { p with link := .selected p.admission.code (BitVec.ofNat 8 p.flags) }
    else { p with link := .lost [] }
  | _ => p

/-- Bytes 0 and 1 of the request frame have been received: the ACK is honoured, and then the message
to offer is chosen (R161 to R163). -/
def Port.control (p : Port) (b0 b1 : Byte) : Port :=
  match p.link with
  | .selected r0 r1 =>
    let q := if controlAck b0 b1 then p.acknowledge else p
    { q with link := .offering (controlKind b0 b1) (returnFrame r0 r1 q.head) q.head.1 }
  | _ => p

/-- The moments before the rise of CS_n that have not been taken yet. -/
def Port.catchUp (rstN : Bool) (p : Port) (bytes : List Byte) : Port :=
  match bytes with
  | b0 :: b1 :: _ => (p.select rstN).control b0 b1
  | _ => p.select rstN

/-- The payload length byte of a request frame. -/
def frameLengthByte (bytes : List Byte) : Nat := (bytes.getD 4 0).toNat

/-- The longest payload a request frame may declare (R166). -/
def maxDeclared : Nat := 48

/-- The CRC byte of a request frame differs from the CRC over bytes 2 through the last payload byte
(R166 row 5). -/
def crcWrong (bytes : List Byte) : Bool :=
  let n := frameLengthByte bytes
  crc8 ((bytes.drop 2).take (3 + n)) != bytes.getD (5 + n) 0

/-- The request a frame carries (10.7). -/
def requestOfFrame (bytes : List Byte) : Request :=
  ⟨bytes.getD 2 0, bytes.getD 3 0, (bytes.drop 5).take (frameLengthByte bytes)⟩

/-- The admission status of a request frame in a complete transaction of kind REQUEST: rows 4 to 7
of R166. -/
def Port.admissionOf (p : Port) (bytes : List Byte) : Admission :=
  if maxDeclared < frameLengthByte bytes then .length
  else if crcWrong bytes then .crc
  else if portCredits ≤ p.creditsUsed then .full
  else .accepted

/-- The admission of a request frame (R166): an ACCEPTED request joins the tail of the inbound
queue. -/
def Port.receive (p : Port) (bytes : List Byte) : Port :=
  let a := p.admissionOf bytes
  { p with
    admission := a
    inbound := if a = .accepted then p.inbound ++ [requestOfFrame bytes] else p.inbound }

/-- A short transaction ends (R164): status SHORT; where a message had been chosen, the
acknowledgment state becomes none. -/
def Port.endShort (p : Port) (bytes : List Byte) : Port :=
  match p.link with
  | .selected b0 b1 => { p with link := .idle, admission := .short, sdo := [b0, b1].take bytes.length }
  | .offering _ f _ =>
    { p with link := .idle, admission := .short, ack := .nothing, sdo := f.take bytes.length }
  | _ => p

/-- A complete transaction whose control byte has been received ends: the acknowledgment state names
the message it offered (R163), and SDO was high beyond the frame (R160). -/
def Port.endComplete (p : Port) (frame : List Byte) (offered : Named) (bytes : List Byte) : Port :=
  { p with link := .idle, ack := offered, sdo := padTo bytes.length frame }

/-- CS_n rises after `bytes` have been shifted in on port `h` (R164, R166, R170). A transaction the
port does not take shows ones beyond what was shifted out before it was abandoned, to its end, also
for the bytes shifted after PRST_n or RST_n has risen again: DESIGN CHOICE, notes/assumptions/29.md,
since R171 and R173 speak of SDO while the pin is low. -/
def State.endTransaction (s : State) (h : HostId) (bytes : List Byte) (agreementFirst : Bool) :
    State :=
  let p := s.port h
  match p.link with
  | .idle => s
  | .lost sent => s.setPort h { p with link := .idle, sdo := padTo bytes.length sent }
  | .selected _ _ => s.setPort h (p.endShort bytes)
  | .offering kind frame offered =>
    if bytes.length < frameBytes then s.setPort h (p.endShort bytes)
    else
      let q := p.endComplete frame offered bytes
      match kind with
      | .null => s.setPort h { q with admission := .none }
      | .request => s.setPort h (q.receive bytes)
      | .portReset => (s.setPort h q).portReset h agreementFirst

/-- A moment of a transaction on port `h`, with the bytes shifted in by then. -/
def State.transaction (s : State) (h : HostId) (part : TxnPart) (bytes : List Byte)
    (agreementFirst : Bool) : State :=
  match part with
  | .select => s.setPort h ((s.port h).select s.rstN)
  | .control => s.setPort h ((s.port h).catchUp s.rstN bytes)
  | .finish =>
    (s.setPort h ((s.port h).catchUp s.rstN bytes)).endTransaction h bytes agreementFirst

/-! ### The commands -/

/-- REQUEST_FRAME, R166. -/
def execRequestFrame (p : HostId) (part : TxnPart) (bytes : List Byte) (s : State) :
    Host.Outcome State Fault Refusal :=
  .next (s.transaction p part bytes false)

/-- NULL_FRAME, R162. -/
def execNullFrame (p : HostId) (part : TxnPart) (bytes : List Byte) (s : State) :
    Host.Outcome State Fault Refusal :=
  .next (s.transaction p part bytes false)

/-- SHORT_TRANSACTION, R164. -/
def execShortTransaction (p : HostId) (part : TxnPart) (bytes : List Byte) (s : State) :
    Host.Outcome State Fault Refusal :=
  .next (s.transaction p part bytes false)

/-- PORT_RESET, R170. -/
def execPortReset (p : HostId) (part : TxnPart) (bytes : List Byte) (agreementFirst : Bool)
    (s : State) : Host.Outcome State Fault Refusal :=
  .next (s.transaction p part bytes agreementFirst)

/-- ACK, R163: byte 1 of a transaction is received after the valid control byte `control`. -/
def execAck (p : HostId) (control : Byte) (s : State) : Host.Outcome State Fault Refusal :=
  .next (s.transaction p .control [control, ~~~control] false)

end Sys2Proof.Machine
end

