-- ==== Sys2Proof/Machine/Running.lean ====
section
/-!
DEFINITION. Run control of chapter 6: SWAP, SWAP CANCEL, HALT, MODE SET, and run control's reaction
to a boundary.
-/

namespace Sys2Proof.Machine

/-- A book moved to another state, keeping its list, run list and report (R42, R43, R98). -/
def Book.inState (b : Book) (st : BookState) : Book := { b with state := st }

/-- Book `b` of host `h` moved to another state (R98). -/
def State.moveBook (s : State) (h : HostId) (b : BookId) (st : BookState) : State :=
  s.setBook h b ((s.book h b).inState st)

/-- The run length of a book (R105). -/
def RunRecord.runOf (r : RunRecord) : BookId → Nat
  | .A => r.runA
  | .B => r.runB

/-- The refusal of a SWAP whose book is not READY (R99 step 3). -/
def HostRecord.swapRefusal (r : HostRecord) (b : BookId) : Option ReplyCode :=
  match (r.book b).state with
  | .ready => none
  | .active => some .alreadyActive
  | .pending => some .pending
  | .compiling => some .compiling
  | .draft => if r.load.map (·.book) = some b then some .loading else some .badArgument

/-- SWAP {book} (R99, R100); a refusal returns the book and its state. -/
def swapBook (h : HostId) (b : BookId) (s : State) : Answer :=
  let r := s.host h
  let refused (c : ReplyCode) : Answer :=
    s.refuseWith (c, .swapRefused (some b) (some (r.book b).state))
  if r.run.mode = .alternate then refused .mode
  else
    match r.swapRefusal b with
    | some c => refused c
    | none =>
      if r.run.action ≠ .none then refused .busy
      else
        ⟨.accepted, .swap b .pending (s.timebase.frame + 1),
          (s.moveBook h b .pending).setRun h { r.run with action := .swapTo b }⟩

/-- SWAP, R99. A payload that names no book is refused with book 0xFF and state 0xFF. -/
def execSwap (h : HostId) (seq : Byte) (payload : List Byte) (s : State) :
    Host.Outcome State Fault Refusal :=
  .next (s.take h seq 0x20 payload fun s =>
    match payload with
    | [book] =>
      match bookOfByte book with
      | some b => swapBook h b s
      | none => s.refuseWith (.badArgument, .swapRefused none none)
    | _ => s.refuseWith (.badArgument, .swapRefused none none))

/-- SWAP CANCEL (R101). -/
def cancelSwap (h : HostId) (s : State) : Answer :=
  match (s.run h).action with
  | .swapTo b =>
    ⟨.done, .bookOnly b, (s.moveBook h b .ready).setRun h { s.run h with action := .none }⟩
  | _ => s.refuse .nothingPending

/-- SWAP CANCEL, R101. -/
def execSwapCancel (h : HostId) (seq : Byte) (payload : List Byte) (s : State) :
    Host.Outcome State Fault Refusal :=
  .next (s.take h seq 0x21 payload fun s => s.onNothing payload (cancelSwap h s))

/-- HALT (R102). -/
def haltRun (h : HostId) (s : State) : Answer :=
  let r := s.run h
  if r.mode = .alternate then s.refuse .mode
  else if r.action ≠ .none then s.refuse .busy
  else
    match r.active with
    | none => s.refuse .nothingPending
    | some b =>
      ⟨.accepted, .halt b (s.timebase.frame + 1), s.setRun h { r with action := .halt }⟩

/-- HALT, R102. -/
def execHalt (h : HostId) (seq : Byte) (payload : List Byte) (s : State) :
    Host.Outcome State Fault Refusal :=
  .next (s.take h seq 0x22 payload fun s => s.onNothing payload (haltRun h s))

/-- MODE SET with mode SINGLE (R106). -/
def setSingle (h : HostId) (s : State) : Answer :=
  let r := s.run h
  ⟨.done, .mode .single r.active 0, s.setRun h { r with mode := .single, turn := 0 }⟩

/-- MODE SET with mode ALTERNATE (R105). -/
def setAlternate (h : HostId) (runA runB : Nat) (s : State) : Answer :=
  let r := s.run h
  if runA = 0 ∨ runB = 0 then s.refuse .badArgument
  else if r.action ≠ .none then s.refuse .busy
  else
    match r.active with
    | none => s.refuse .nothingPending
    | some b =>
      let r' : RunRecord := { r with mode := .alternate, runA := runA, runB := runB }
      ⟨.done, .mode .alternate (some b) (r'.runOf b), s.setRun h { r' with turn := r'.runOf b }⟩

/-- MODE SET, R105. -/
def execModeSet (h : HostId) (seq : Byte) (payload : List Byte) (s : State) :
    Host.Outcome State Fault Refusal :=
  .next (s.take h seq 0x23 payload fun s =>
    match payload with
    | [mode, runA, runB] =>
      match modeOfByte mode with
      | some .single => setSingle h s
      | some .alternate => setAlternate h runA.toNat runB.toNat s
      | none => s.refuse .badArgument
    | _ => s.refuse .badArgument)

/-! ### Run control at a boundary -/

/-- A pending SWAP to `b` is carried out; the former active book, if any, leaves ACTIVE for READY
(R100). -/
def State.carrySwap (s : State) (h : HostId) (b : BookId) : State :=
  let r := s.run h
  let s' :=
    match r.active with
    | some a => s.moveBook h a .ready
    | none => s
  ((s'.moveBook h b .active).setRun h { r with active := some b, action := .none }).post h
    (.bookActive b)

/-- A pending HALT of active book `a` is carried out (R103). -/
def State.carryHalt (s : State) (h : HostId) (a : BookId) : State :=
  ((s.moveBook h a .ready).setRun h { s.run h with active := none, action := .none }).post h
    (.halted a)

/-- A turn from book `a`: taken where the other book is READY (R107), otherwise skipped (R108). -/
def State.takeTurn (s : State) (h : HostId) (a : BookId) : State :=
  let r := s.run h
  let o := a.other
  if (s.book h o).state = .ready then
    (((s.moveBook h a .ready).moveBook h o .active).setRun h
      { r with active := some o, turn := r.runOf o }).post h (.bookActive o)
  else
    (s.setRun h { r with turn := r.runOf a }).post h (.turnSkipped o (s.book h o).state)

/-- Run control's reaction to a boundary for host `h` (R100, R103, R107, R108). -/
def State.runBoundary (s : State) (h : HostId) : State :=
  let r := s.run h
  match r.mode, r.action, r.active with
  | .single, .swapTo b, _ => s.carrySwap h b
  | .single, .halt, some a => s.carryHalt h a
  | .alternate, _, some a =>
    if r.turn ≤ 1 then s.takeTurn h a else s.setRun h { r with turn := r.turn - 1 }
  | _, _, _ => s

/-- The book that run control's reaction takes out of ACTIVE, where there is one (R98, R155). -/
def State.leavesActive (s : State) (h : HostId) : Option BookId :=
  match (s.run h).active with
  | some a => if ((s.runBoundary h).run h).active = some a then none else some a
  | none => none

end Sys2Proof.Machine
end

