-- ==== Sys2Proof/Machine/Status.lean ====
section
/-!
DEFINITION. STATUS (11.4): the view of the part, and of the requester's own share of it.
-/

namespace Sys2Proof.Machine

/-- The status block for host `h`, read at one moment (R181). DESIGN CHOICE, notes/assumptions/26.md:
R30 speaks of a lane's settings in force in a STATUS reply, and R129 of the target in the offer field;
R31, R181 and 10.7 give the status block the state and the holder of a lane alone, and it carries no
more. -/
def State.statusFor (s : State) (h : HostId) : StatusBlock where
  frame := s.timebase.frame
  position := s.timebase.position
  f := s.timebase.f
  proposal := s.proposal
  lanes := Vector.ofFn fun l => ((s.lane l).state, (s.lane l).holder)
  stateA := (s.book h .A).state
  stateB := (s.book h .B).state
  lengthA := (s.book h .A).cues.length
  lengthB := (s.book h .B).cues.length
  slots := (s.host h).slots
  commonFree := s.commonFree
  run := s.run h

/-- STATUS, R181. -/
def execStatus (h : HostId) (seq : Byte) (payload : List Byte) (s : State) :
    Host.Outcome State Fault Refusal :=
  .next (s.take h seq 0x01 payload fun s =>
    s.onNothing payload ⟨.done, .status (s.statusFor h), s⟩)

end Sys2Proof.Machine
end

