-- ==== Sys2Proof/Machine/Timebase.lean ====
section
/-!
DEFINITION. Ticks (chapter 1): arrivals with the timeline engine's, the lane drivers' and the
monitor's reactions, the frame boundary with every block's reactions, and the named occurrences
inside a tick.
-/

namespace Sys2Proof.Machine

/-! ### Due cues (R112) -/

/-- The cues of a run list, in its order (R42). -/
def Book.inRunOrder (b : Book) : List Cue := (b.runList.getD []).filterMap fun i => b.cues[i]?

/-- The cue is due at position `p` of frame `n` (R112). -/
def Cue.dueAt (c : Cue) (p : Nat) (n : Word32) : Bool :=
  c.offset == p && n.toNat % c.every == c.phase

/-- The due cues of host `h` at the arrival now being acted on, in run-list order (R112). -/
def State.dueCues (s : State) (h : HostId) : List Cue :=
  match (s.run h).active with
  | some b =>
    (s.book h b).inRunOrder.filter fun c => c.dueAt s.timebase.position s.timebase.frame
  | none => []

/-! ### The reactions to an arrival -/

/-- The due cues that start on lane `l` (R113): the holder's, on a lane that is HELD, OFFERED or
HANDOVER with its fault flag clear, and that fit the F in force. -/
def State.starting (s : State) (l : LaneId) : List Cue :=
  let x := s.lane l
  match x.holder with
  | some h =>
    if x.state.working && !x.faultFlag then
      (s.dueCues h).filter fun c => c.lane? == some l && c.fits s.timebase.f
    else []
  | none => []

/-- What the lane drivers set for a cue that starts at position `p`: level and pulse end (R16,
R17). -/
def Action.driven (a : Action) (p : Nat) (now : Bool × Option Nat) : Bool × Option Nat :=
  match a with
  | .rise _ => (true, none)
  | .fall _ => (false, none)
  | .pulse _ w => (true, some (p + w))
  | .note => now

/-- Level and pulse end of a lane after a pulse end at position `p` has been acted on (R18). -/
def LaneRecord.afterPulseEnd (x : LaneRecord) (p : Nat) : Bool × Option Nat :=
  if x.pulseEnd = some p then (false, none) else (x.level, x.pulseEnd)

/-- Lane `x` after the drivers' work at an arrival at `p`: the pulse end, then the cues that start;
the lane sees one change of level or none (R19). -/
def Lane.arrive (x : Lane) (p : Nat) (cues : List Cue) : Lane :=
  let d := cues.foldl (fun now c => c.action.driven p now) (x.afterPulseEnd p)
  x.drive d.1 d.2

/-- The lane drivers' work on lane `l` at the arrival now being acted on (R16 to R19, R114). -/
def State.driveLane (s : State) (l : LaneId) : State :=
  s.setLane l ((s.lane l).arrive s.timebase.position (s.starting l))

/-- The due NOTE cues of host `h` post CUE_REACHED in run-list order (R115). -/
def State.postNotes (s : State) (h : HostId) : State :=
  s.postAll (((s.dueCues h).filter fun c => c.action == .note).map fun c => (h, .cueReached c.tag))

/-- Every reaction to an arrival. -/
def everyArrivalReaction : List ArrivalReaction :=
  allLanes.map .check ++ allLanes.map .drive ++ allHosts.map .notes

/-- One reaction to an arrival, `due` being the lanes whose pending check has fallen due. -/
def State.reactArrival (due : List LaneId) (s : State) (r : ArrivalReaction) : State :=
  match r with
  | .check l => if l ∈ due then s.checkLane l else s
  | .drive l => s.driveLane l
  | .notes h => s.postNotes h

/-- The lanes whose pending check has fallen due: it stands at 0 (R136, R137). -/
def State.dueChecks (s : State) : List LaneId := allLanes.filter fun l => (s.lane l).check == some 0

/-- A check that has fallen due is removed as it is made (R137). -/
def Lane.takeDue (x : Lane) : Lane := if x.check = some 0 then { x with check := none } else x

/-- The arrival at the position now held, with every reaction to it, in the order the operand gives
(R1, R112, R138). -/
def State.arrive (s : State) (i : ArrivalIn) : State :=
  let s' := (s.setRbk i.rbk).mapLanes Lane.takeDue
  (inOrder i.order everyArrivalReaction).foldl (State.reactArrival s.dueChecks) s'

/-- On each tick the monitor reduces every pending check by one (R137). -/
def Lane.tick (x : Lane) : Lane := { x with check := x.check.map (· - 1) }

/-- The tick at a position below F-1 (R1): the position advances, FMARK is low (R7), and the arrival
at the new position is issued. -/
def State.plainTick (s : State) (i : ArrivalIn) : State :=
  let t := s.timebase
  ((s.setTimebase { t with position := t.position + 1, fmark := false }).mapLanes Lane.tick).arrive i

/-! ### The boundary tick -/

/-- The frame-end arrival (R4): the arrival at position F for the lane drivers, at which no cue
starts; every pulse that ends at F ends here (R18). -/
def State.frameEnd (s : State) : State := s.mapLanes fun x => x.arrive s.timebase.f []

/-- The timebase takes the boundary (R3, R6, R7, R8). -/
def Timebase.boundary (t : Timebase) : Timebase :=
  ⟨t.nextLength.getD t.f, 0, t.frame + 1, none, true⟩

/-! ### The reactions to a boundary and their order (R3) -/

/-- A boundary being reacted to: the state, whether the agreement unit has reacted, and the books that
have left ACTIVE at it (R155). -/
structure Crossing where
  state : State
  agreementDone : Bool
  left : List (HostId × BookId)

/-- Run control's reaction for host `h`. A book that leaves ACTIVE is tested at once where the
agreement unit has reacted, and by the agreement unit's reaction otherwise (R155). -/
def Crossing.run (c : Crossing) (h : HostId) : Crossing :=
  let s := c.state.runBoundary h
  match c.state.leavesActive h with
  | none => { c with state := s }
  | some b =>
    if c.agreementDone then
      { c with state := if s.leaverMisfit (s.book h b) then s.demote h b else s }
    else { c with state := s, left := c.left ++ [(h, b)] }

/-- One reaction to a boundary. -/
def Crossing.react (c : Crossing) (r : BoundaryReaction) : Crossing :=
  match r with
  | .lane l => { c with state := c.state.reactLane l (Lane.atBoundary l) }
  | .check l => { c with state := c.state.boundaryCheck l }
  | .load h => { c with state := c.state.loadBoundary h }
  | .run h => c.run h
  | .agreement => { c with state := c.state.agreementBoundary c.left, agreementDone := true }

/-- Every reaction to a boundary. -/
def everyBoundaryReaction : List BoundaryReaction :=
  (allLanes.flatMap fun l => [.lane l, .check l]) ++ allHosts.map .load ++ allHosts.map .run ++
    [.agreement]

/-- The notices one reaction posts about one lane, and the lane after it; nothing, of a reaction that
is not the lane table's or the monitor's. -/
def State.laneReaction (s : State) (r : BoundaryReaction) : State × List (LaneId × HostId) :=
  match r with
  | .lane l =>
    (s.setLane l (Lane.atBoundary l (s.lane l)).1,
      (Lane.atBoundary l (s.lane l)).2.map fun x => (l, x.1))
  | .check l =>
    let y := Lane.boundaryCheck l s.timebase.frame (s.rbk.getLsbD l.val) (s.lane l)
    (s.setLane l y.1, y.2.map fun x => (l, x.1))
  | _ => (s, [])

/-- The lane and the host of each notice that the lane table and the monitor post to a port not held
in reset, as the reactions are taken in order. -/
def State.laneNotices : State → List BoundaryReaction → List (LaneId × HostId)
  | _, [] => []
  | s, r :: rs =>
    ((s.laneReaction r).2.filter fun x => !(s.port x.2).held) ++ (s.laneReaction r).1.laneNotices rs

/-- The notices that one host is posted for several lanes go in lane order, L0 first (R175). -/
def laneOrdered (ns : List (LaneId × HostId)) : Bool :=
  decide (ns.Pairwise fun a b => a.2 = b.2 → a.1 ≤ b.1)

/-- The lane table has reacted on every lane before the agreement unit reacts (R147). -/
def lanesBeforeAgreement (order : List BoundaryReaction) : Bool :=
  allLanes.all fun l => (order.takeWhile (· != .agreement)).contains (.lane l)

/-- The orders in which the reactions can be taken: any that keeps the lane order of R175 and, with an
OPEN record, lets the agreement unit read what the lane table has left (R147, R152). -/
def State.orderAllowed (s : State) (order : List BoundaryReaction) : Bool :=
  laneOrdered (s.laneNotices order) &&
    (s.proposal.map (·.state) != some .opened || lanesBeforeAgreement order)

/-- The order of the reactions to this boundary: the one the operand gives, where it is one in which
they can be taken, and otherwise lane by lane and then block by block. -/
def State.boundaryOrder (s : State) (preferred : List BoundaryReaction) : List BoundaryReaction :=
  let order := inOrder preferred everyBoundaryReaction
  if s.orderAllowed order then order else everyBoundaryReaction

/-- The boundary tick up to the boundary event: the monitor's count of ticks (R137), the frame-end
arrival (R4), and the timebase's own changes (R3). -/
def State.enterFrame (s : State) : State :=
  let s' := (s.mapLanes Lane.tick).frameEnd
  s'.setTimebase s'.timebase.boundary

/-- Every reaction to the boundary event (R3). -/
def State.crossBoundary (s : State) (b : BoundaryIn) : State :=
  let s' := s.setRbk b.rbk
  ((s'.boundaryOrder b.order).foldl Crossing.react ⟨s', false, []⟩).state

/-- The tick at position F-1 (R3, R4): the frame-end arrival, the boundary with every reaction to
it, and then the arrival at position 0. -/
def State.boundaryTick (s : State) (b : BoundaryIn) : State :=
  (s.enterFrame.crossBoundary b).arrive b.start

/-! ### Ticks -/

/-- The next tick is an arrival below F-1 of the part out of power-on reset (R1, R12). -/
def State.atArrival (s : State) : Bool := s.rstN && s.timebase.position + 1 < s.timebase.f

/-- The next tick is the boundary tick (R1, R12). -/
def State.atBoundary (s : State) : Bool := s.rstN && s.timebase.position + 1 == s.timebase.f

/-- The next tick, whichever it is; ticks while RST_n is low are ignored (R12). -/
def State.tick (s : State) (b : BoundaryIn) : State :=
  if s.atArrival then s.plainTick b.start else if s.atBoundary then s.boundaryTick b else s

/-- ARRIVAL, R1. -/
def execArrival (i : ArrivalIn) (s : State) : Host.Outcome State Fault Refusal :=
  .next (if s.atArrival then s.plainTick i else s)

/-- FRAME_BOUNDARY, R3. -/
def execFrameBoundary (b : BoundaryIn) (s : State) : Host.Outcome State Fault Refusal :=
  .next (if s.atBoundary then s.boundaryTick b else s)

/-! ### Occurrences inside a tick (notes/assumptions/3.md)

Each is whole with the tick it belongs to (R1, R5), so its meaning is that tick, where the
occurrence comes about at it, and nothing where it does not. -/

/-- The next tick's arrival, or the frame-end arrival of a boundary tick, is at the pulse end of
lane `l` (R18). -/
def State.pulseEndsNext (s : State) (l : LaneId) : Bool :=
  (s.lane l).pulseEnd == some (s.timebase.position + 1)

/-- PULSE_END, R18. -/
def execPulseEnd (l : LaneId) (b : BoundaryIn) (s : State) : Host.Outcome State Fault Refusal :=
  .next (if s.pulseEndsNext l then s.tick b else s)

/-- READBACK_CHECK, R138: the pending check of lane `l` reaches 0 at the next tick. -/
def execReadbackCheck (l : LaneId) (b : BoundaryIn) (s : State) :
    Host.Outcome State Fault Refusal :=
  .next (if (s.lane l).check = some 1 then s.tick b else s)

/-- The offer on lane `l` has one boundary remaining (R126). -/
def State.offerRunsOut (s : State) (l : LaneId) : Bool :=
  (s.lane l).state == .offered && (s.lane l).offer.bind (·.remaining) == some 1

/-- OFFER_EXPIRY, R126. -/
def execOfferExpiry (l : LaneId) (b : BoundaryIn) (s : State) : Host.Outcome State Fault Refusal :=
  .next (if s.atBoundary && s.offerRunsOut l then s.boundaryTick b else s)

/-- LOAD_IDLE_TIMEOUT, R71: the idle count of host `h`'s load reaches 8 at the next boundary. -/
def execLoadIdleTimeout (h : HostId) (b : BoundaryIn) (s : State) :
    Host.Outcome State Fault Refusal :=
  .next (if s.atBoundary && (s.host h).load.map (·.idle + 1) == some idleLimit then s.boundaryTick b
    else s)

/-- ALTERNATION_TURN, R107: host `h`'s turn counter reaches 0 at the next boundary. -/
def execAlternationTurn (h : HostId) (b : BoundaryIn) (s : State) :
    Host.Outcome State Fault Refusal :=
  .next (if s.atBoundary && (s.run h).mode == .alternate && (s.run h).turn == 1 then s.boundaryTick b
    else s)

/-- Host `h` will hold a lane once the lane table has reacted to the next boundary: a HELD or
OFFERED lane of its own, or a lane being handed over to it (R33, R147). -/
def State.holdsAfterBoundary (s : State) (h : HostId) : Bool :=
  allLanes.any fun l =>
    (s.lane l).ownedBy h ||
      ((s.lane l).state == .handover && (s.lane l).offer.map (·.target) == some h)

/-- The OPEN record has one boundary of its window remaining, and the removal of lane-less voters at
the next boundary does not make it AGREED (R152). -/
def State.proposalExpiresNext (s : State) : Bool :=
  match s.proposal with
  | some p =>
    p.state == .opened && p.window == 1 &&
      allHosts.any fun h =>
        s.holdsAfterBoundary h && (HostSet.has p.voters h != HostSet.has p.yes h)
  | none => false

/-- PROPOSAL_EXPIRY, R152: the boundary at which the window of the OPEN record reaches 0. -/
def execProposalExpiry (b : BoundaryIn) (s : State) : Host.Outcome State Fault Refusal :=
  .next (if s.atBoundary && s.proposalExpiresNext then s.boundaryTick b else s)

end Sys2Proof.Machine
end

