-- ==== Sys2Proof/Machine/Dispatch.lean ====
section
/-!
DEFINITION. One arm per command: the direct call of its meaning.
-/

namespace Sys2Proof.Machine

/-- The effect of a command on everything but the queue of waiting commands. -/
def exec (i : Instr) (s : State) : Host.Outcome State Fault Refusal :=
  match i with
  | .arrival x => Sys2Proof.Machine.execArrival x s
  | .frameBoundary b => Sys2Proof.Machine.execFrameBoundary b s
  | .pulseEnd l b => Sys2Proof.Machine.execPulseEnd l b s
  | .readbackCheck l b => Sys2Proof.Machine.execReadbackCheck l b s
  | .offerExpiry l b => Sys2Proof.Machine.execOfferExpiry l b s
  | .loadIdleTimeout h b => Sys2Proof.Machine.execLoadIdleTimeout h b s
  | .alternationTurn h b => Sys2Proof.Machine.execAlternationTurn h b s
  | .proposalExpiry b => Sys2Proof.Machine.execProposalExpiry b s
  | .compileCompletion => Sys2Proof.Machine.execCompileCompletion s
  | .status h seq payload => Sys2Proof.Machine.execStatus h seq payload s
  | .claim h seq payload => Sys2Proof.Machine.execClaim h seq payload s
  | .release h seq payload => Sys2Proof.Machine.execRelease h seq payload s
  | .laneSet h seq payload => Sys2Proof.Machine.execLaneSet h seq payload s
  | .laneQuery h seq payload => Sys2Proof.Machine.execLaneQuery h seq payload s
  | .offer h seq payload => Sys2Proof.Machine.execOffer h seq payload s
  | .withdraw h seq payload => Sys2Proof.Machine.execWithdraw h seq payload s
  | .decline h seq payload => Sys2Proof.Machine.execDecline h seq payload s
  | .accept h seq payload => Sys2Proof.Machine.execAccept h seq payload s
  | .faultClear h seq payload => Sys2Proof.Machine.execFaultClear h seq payload s
  | .cuePut h seq payload => Sys2Proof.Machine.execCuePut h seq payload s
  | .cueDrop h seq payload => Sys2Proof.Machine.execCueDrop h seq payload s
  | .bookClear h seq payload => Sys2Proof.Machine.execBookClear h seq payload s
  | .bookCopy h seq payload => Sys2Proof.Machine.execBookCopy h seq payload s
  | .bookRead h seq payload => Sys2Proof.Machine.execBookRead h seq payload s
  | .loadOpen h seq payload => Sys2Proof.Machine.execLoadOpen h seq payload s
  | .loadCues h seq payload => Sys2Proof.Machine.execLoadCues h seq payload s
  | .loadCancel h seq payload => Sys2Proof.Machine.execLoadCancel h seq payload s
  | .compile h seq payload => Sys2Proof.Machine.execCompile h seq payload s
  | .compileAbort h seq payload => Sys2Proof.Machine.execCompileAbort h seq payload s
  | .swap h seq payload => Sys2Proof.Machine.execSwap h seq payload s
  | .swapCancel h seq payload => Sys2Proof.Machine.execSwapCancel h seq payload s
  | .halt h seq payload => Sys2Proof.Machine.execHalt h seq payload s
  | .modeSet h seq payload => Sys2Proof.Machine.execModeSet h seq payload s
  | .propose h seq payload => Sys2Proof.Machine.execPropose h seq payload s
  | .vote h seq payload => Sys2Proof.Machine.execVote h seq payload s
  | .proposalWithdraw h seq payload => Sys2Proof.Machine.execProposalWithdraw h seq payload s
  | .badRequest h seq code payload => Sys2Proof.Machine.execBadRequest h seq code payload s
  | .requestFrame p part bytes => Sys2Proof.Machine.execRequestFrame p part bytes s
  | .nullFrame p part bytes => Sys2Proof.Machine.execNullFrame p part bytes s
  | .ack p control => Sys2Proof.Machine.execAck p control s
  | .shortTransaction p part bytes => Sys2Proof.Machine.execShortTransaction p part bytes s
  | .portReset p part bytes agreementFirst => Sys2Proof.Machine.execPortReset p part bytes agreementFirst s
  | .prstNLow p sent agreementFirst => Sys2Proof.Machine.execPrstNLow p sent agreementFirst s
  | .prstNRise p => Sys2Proof.Machine.execPrstNRise p s
  | .powerOnReset sent => Sys2Proof.Machine.execPowerOnReset s sent
  | .rstNRelease => Sys2Proof.Machine.execRstNRelease s

end Sys2Proof.Machine
end

