-- ==== Sys2Proof/Safety.lean ====
section
/-!
DEFINITION. What the manual says always holds: the laws it states of each block's state, in the terms
the statements use. Each is decidable, so that a concrete state can be shown to satisfy it.
-/

namespace Sys2Proof.Safety

open Sys2Proof.Machine

/-! ### Ports (R167, 11.3) -/

/-- The requests waiting in a port's inbound queue plus the replies waiting in its reply queue never
exceed 3 (R167). -/
abbrev creditsKept (s : State) : Prop := ∀ h : HostId, (s.port h).creditsUsed ≤ 3

/-- A notice queue holds at most 15 ordinary entries, and an OVERFLOW entry only as its youngest
(11.3). -/
abbrev noticesKept (s : State) : Prop :=
  ∀ h : HostId,
    ((s.port h).notices.filter fun n => !n.isOverflow).length ≤ 15 ∧
      ∀ n ∈ (s.port h).notices.dropLast, n.isOverflow = false

/-- The message that `n` names is waiting in port `p`. -/
def namedWaits (p : Port) (n : Named) : Bool :=
  match n with
  | .nothing => true
  | .reply => !p.replies.isEmpty
  | .notice => !p.notices.isEmpty

/-- The message offered in the transaction in progress: none before the offer is chosen. -/
def offeredBy (x : Link) : Named :=
  match x with
  | .offering _ _ n => n
  | _ => .nothing

/-- The acknowledgment state, and the offer of a transaction in progress, name a message that is
waiting in its queue (R163, R164). -/
abbrev ackNamesWaiting (s : State) : Prop :=
  ∀ h : HostId,
    namedWaits (s.port h) (s.port h).ack = true ∧
      namedWaits (s.port h) (offeredBy (s.port h).link) = true

/-- The port acts on the transaction in progress: it has taken the fall of CS_n. -/
def takenUp (x : Link) : Bool :=
  match x with
  | .selected _ _ => true
  | .offering _ _ _ => true
  | _ => false

/-- A port held in reset by PRST_n acts on no transaction: one in progress was abandoned (R171). -/
abbrev heldPortsIdle (s : State) : Prop :=
  ∀ h : HostId, (s.port h).held = true → takenUp (s.port h).link = false

/-! ### The timebase (R1, R2, R7, R8, R146) -/

/-- A frame length: 16 to 16,777,216 (R2). -/
abbrev frameLengthOk (f : Nat) : Prop := 16 ≤ f ∧ f ≤ 16777216

/-- F in its range, the position below F, and every length that may become F in its range (R1, R2,
R8, R146). -/
abbrev timebaseKept (s : State) : Prop :=
  frameLengthOk s.timebase.f ∧ s.timebase.position < s.timebase.f ∧
    (∀ f ∈ s.timebase.nextLength, frameLengthOk f) ∧
    (∀ p ∈ s.proposal, frameLengthOk p.newF)

/-! ### Lanes (R13, R14, R18, R25, R120, R131, R136, R140) -/

/-- Settings within their ranges (R13). -/
abbrev settingsOk (x : Settings) : Prop :=
  1 ≤ x.spacing ∧ x.spacing ≤ 255 ∧ 1 ≤ x.settle ∧ x.settle ≤ 15

/-- The offer field that a state and a holder allow (R120, R121): while OFFERED, a target that is
not the holder and 1 to 64 boundaries remaining; in HANDOVER, such a target alone; otherwise none. -/
def offerOk (st : LaneState) (holder : Option HostId) (o : Option Offer) : Bool :=
  match st, o with
  | .offered, some ⟨t, some n⟩ => decide (1 ≤ n) && decide (n ≤ 64) && holder != some t
  | .handover, some ⟨t, none⟩ => holder != some t
  | .offered, _ => false
  | .handover, _ => false
  | _, o => o.isNone

/-- A FREE lane has no holder, and a lane in any other state has one (R14); its offer field is as
R120 states. -/
abbrev laneOwnershipOk (x : LaneRecord) : Prop :=
  (x.state = .free ↔ x.holder = none) ∧ offerOk x.state x.holder x.offer = true

/-- Ownership of every lane (R14, R120). -/
abbrev ownershipKept (s : State) : Prop := ∀ l : LaneId, laneOwnershipOk (s.lane l).toLaneRecord

/-- A lane whose fault flag is set is inactive, with no pulse end and no pending check, and is not
OFFERED; the count is at most 3, at 3 only with the flag set, and a lane with no holder has clear
fault fields (R131, R136, R140, R142, R143). -/
abbrev laneFaultOk (x : Lane) : Prop :=
  (x.faultFlag = true →
      x.level = false ∧ x.pulseEnd = none ∧ x.check = none ∧ x.state ≠ .offered ∧ x.state ≠ .free) ∧
    x.faultCount ≤ 3 ∧ (x.faultCount = 3 → x.faultFlag = true)

/-- Fault fields of every lane. -/
abbrev faultsKept (s : State) : Prop := ∀ l : LaneId, laneFaultOk (s.lane l)

/-- A lane's settings are in range; a pending check runs 1 to 15 ticks and only on a watched lane
(R13, R136). -/
abbrev laneCheckOk (x : Lane) : Prop :=
  settingsOk x.settings ∧ (∀ p ∈ x.pending, settingsOk p) ∧
    ∀ n ∈ x.check, 1 ≤ n ∧ n ≤ 15 ∧ x.watched = true

/-- Settings and pending checks of every lane. -/
abbrev checksKept (s : State) : Prop := ∀ l : LaneId, laneCheckOk (s.lane l)

/-- A pulse end is a later position of the frame now running, at most F; a lane that is FREE or
RETIRING is inactive unless a pulse is running on it (R13, R17, R18, R25). -/
abbrev laneLevelOk (p f : Nat) (x : LaneRecord) : Prop :=
  (∀ e ∈ x.pulseEnd, p < e ∧ e ≤ f) ∧
    ((x.state = .free ∨ x.state = .retiring) → x.pulseEnd = none → x.level = false) ∧
    (x.state = .free → x.pulseEnd = none)

/-- Levels and pulse ends of every lane. -/
abbrev levelsKept (s : State) : Prop :=
  ∀ l : LaneId, laneLevelOk s.timebase.position s.timebase.f (s.lane l).toLaneRecord

/-! ### Books, slots and loads (R40, R44, R55, R62, R63, R76, R97, R98) -/

/-- A cue with every field in its range (R37). -/
def cueOk (c : Cue) : Bool :=
  decide (c.offset ≤ 16777215) && decide (1 ≤ c.every) && decide (c.every ≤ 255) &&
    decide (c.phase < c.every) &&
    match c.action with
    | .pulse _ w => decide (1 ≤ w) && decide (w ≤ 65535)
    | _ => true

/-- Every cue of every book is in its ranges (R37, R38). -/
abbrev cuesKept (s : State) : Prop :=
  ∀ h : HostId, (s.host h).bookA.cues.all cueOk = true ∧ (s.host h).bookB.cues.all cueOk = true

/-- The slots reserved by an open load for cues not yet received (R55). -/
def reserved : Option Load → Nat
  | some ld => ld.declared - ld.received
  | none => 0

/-- A host's slot count is the cues in its two books plus the slots its open load reserves (R55). -/
abbrev slotsCounted (r : HostRecord) : Prop :=
  r.slots = r.bookA.cues.length + r.bookB.cues.length + reserved r.load

/-- An open load's counts, and its target, which is DRAFT and as long as the load has made it (R62,
R63, R64). -/
abbrev loadOk (r : HostRecord) : Prop :=
  ∀ ld ∈ r.load,
    ld.received < ld.declared ∧ ld.lengthAtOpen + ld.declared ≤ 512 ∧ ld.idle ≤ 7 ∧
      (r.book ld.book).state = .draft ∧
      (r.book ld.book).cues.length = ld.lengthAtOpen + ld.received

/-- Slot counts, books of at most 512 cues, and the draws on the common slots, which never exceed
512 (R40, R55). -/
abbrev slotsKept (s : State) : Prop :=
  (∀ h : HostId, slotsCounted (s.host h) ∧ loadOk (s.host h) ∧
      (s.book h .A).cues.length ≤ 512 ∧ (s.book h .B).cues.length ≤ 512) ∧
    s.drawn ≤ 512

/-- The run record and the books agree, and hold the values stated (R97, R98). -/
abbrev runOk (r : HostRecord) : Prop :=
  (∀ b ∈ allBooks, r.run.active = some b ↔ (r.book b).state = .active) ∧
    (∀ b ∈ allBooks, r.run.action = .swapTo b ↔ (r.book b).state = .pending) ∧
    (r.run.action = .halt → r.run.active ≠ none) ∧
    1 ≤ r.run.runA ∧ r.run.runA ≤ 255 ∧ 1 ≤ r.run.runB ∧ r.run.runB ≤ 255 ∧
    (r.run.mode = .single → r.run.turn = 0) ∧
    (r.run.mode = .alternate →
      r.run.active ≠ none ∧ r.run.action = .none ∧ 1 ≤ r.run.turn ∧ r.run.turn ≤ 255)

/-- Every run record agrees with its host's books. -/
abbrev runsKept (s : State) : Prop := ∀ h : HostId, runOk (s.host h)

/-- A book has a run list exactly while READY, PENDING or ACTIVE, and it is the order of its cues by
offset and index (R40, R42, R44). -/
abbrev runListOk (b : Book) : Prop :=
  b.runList = if b.state.compiled then some (buildRunList b.cues) else none

/-- Every book's run list. -/
abbrev runListsKept (s : State) : Prop :=
  ∀ h : HostId, runListOk (s.host h).bookA ∧ runListOk (s.host h).bookB

/-- At most one job per host, and a book is COMPILING exactly while it is the book of a job (R76). -/
abbrev jobsKept (s : State) : Prop :=
  (s.jobs.map (·.host)).Nodup ∧
    ∀ h : HostId, ∀ b ∈ allBooks, (⟨h, b⟩ : Job) ∈ s.jobs ↔ (s.book h b).state = .compiling

/-! ### Agreement (R8, R146, R155) -/

/-- A proposal record with the timebase's next length: the proposer is no voter, the yes set is a
subset of the voter set, a window of 1 to 64; while OPEN no next length and not yet every voter's YES;
while AGREED every voter's YES and its new F handed to the timebase (R8, R146, R154). -/
abbrev recordOk (next : Option Nat) (p : Proposal) : Prop :=
  HostSet.has p.voters p.proposer = false ∧
    (∀ h : HostId, HostSet.has p.yes h = true → HostSet.has p.voters h = true) ∧
    1 ≤ p.window ∧ p.window ≤ 64 ∧
    (p.state = .opened → next = none ∧ p.yes ≠ p.voters) ∧
    (p.state = .agreed → p.yes = p.voters ∧ next = some p.newF)

/-- The proposal record, and no next length without one (R8, R9, R146). -/
abbrev proposalKept (s : State) : Prop :=
  (s.proposal = none → s.timebase.nextLength = none) ∧
    ∀ p ∈ s.proposal, recordOk s.timebase.nextLength p

/-- Every READY or PENDING book fits the F in force and, while a proposal is AGREED, the agreed
length as well (R155). -/
abbrev fitsKept (s : State) : Prop :=
  ∀ h : HostId, ∀ b ∈ allBooks,
    ((s.book h b).state = .ready ∨ (s.book h b).state = .pending) →
      ∀ f ∈ s.lengthsRequired, (s.book h b).fits f = true

/-! ### The laws together -/

/-- What each port keeps (R163, R164, R167, R171, 11.3). -/
abbrev portsKept (s : State) : Prop :=
  creditsKept s ∧ noticesKept s ∧ ackNamesWaiting s ∧ heldPortsIdle s

/-- What the timebase and the agreement unit keep (R1, R2, R8, R146). -/
abbrev agreementKept (s : State) : Prop := timebaseKept s ∧ proposalKept s

/-- What the lane table and the monitor keep (R13, R14, R120, R131, R136, R140). -/
abbrev lanesKept (s : State) : Prop := ownershipKept s ∧ faultsKept s ∧ checksKept s

/-- What the cue store, the load unit, the compiler and run control keep (R40 to R44, R55, R62, R63,
R76, R97, R98). -/
abbrev booksKept (s : State) : Prop :=
  slotsKept s ∧ jobsKept s ∧ runsKept s ∧ runListsKept s

/-! ### What a command does and what it leaves as it was -/

/-- The request that a request command takes: the requester, and the request as it waited. -/
def requestOf : Instr → Option (HostId × Request)
  | .status h seq payload => some (h, ⟨seq, 0x01, payload⟩)
  | .claim h seq payload => some (h, ⟨seq, 0x02, payload⟩)
  | .release h seq payload => some (h, ⟨seq, 0x03, payload⟩)
  | .laneSet h seq payload => some (h, ⟨seq, 0x04, payload⟩)
  | .laneQuery h seq payload => some (h, ⟨seq, 0x05, payload⟩)
  | .offer h seq payload => some (h, ⟨seq, 0x06, payload⟩)
  | .withdraw h seq payload => some (h, ⟨seq, 0x07, payload⟩)
  | .decline h seq payload => some (h, ⟨seq, 0x08, payload⟩)
  | .accept h seq payload => some (h, ⟨seq, 0x09, payload⟩)
  | .faultClear h seq payload => some (h, ⟨seq, 0x0A, payload⟩)
  | .cuePut h seq payload => some (h, ⟨seq, 0x10, payload⟩)
  | .cueDrop h seq payload => some (h, ⟨seq, 0x11, payload⟩)
  | .bookClear h seq payload => some (h, ⟨seq, 0x12, payload⟩)
  | .bookCopy h seq payload => some (h, ⟨seq, 0x13, payload⟩)
  | .bookRead h seq payload => some (h, ⟨seq, 0x14, payload⟩)
  | .loadOpen h seq payload => some (h, ⟨seq, 0x18, payload⟩)
  | .loadCues h seq payload => some (h, ⟨seq, 0x19, payload⟩)
  | .loadCancel h seq payload => some (h, ⟨seq, 0x1A, payload⟩)
  | .compile h seq payload => some (h, ⟨seq, 0x1C, payload⟩)
  | .compileAbort h seq payload => some (h, ⟨seq, 0x1D, payload⟩)
  | .swap h seq payload => some (h, ⟨seq, 0x20, payload⟩)
  | .swapCancel h seq payload => some (h, ⟨seq, 0x21, payload⟩)
  | .halt h seq payload => some (h, ⟨seq, 0x22, payload⟩)
  | .modeSet h seq payload => some (h, ⟨seq, 0x23, payload⟩)
  | .propose h seq payload => some (h, ⟨seq, 0x28, payload⟩)
  | .vote h seq payload => some (h, ⟨seq, 0x29, payload⟩)
  | .proposalWithdraw h seq payload => some (h, ⟨seq, 0x2A, payload⟩)
  | .badRequest h seq code payload =>
    if codesOfRequests.contains code then none else some (h, ⟨seq, code, payload⟩)
  | .arrival _ => none
  | .frameBoundary _ => none
  | .pulseEnd _ _ => none
  | .readbackCheck _ _ => none
  | .offerExpiry _ _ => none
  | .loadIdleTimeout _ _ => none
  | .alternationTurn _ _ => none
  | .proposalExpiry _ => none
  | .compileCompletion => none
  | .requestFrame _ _ _ => none
  | .nullFrame _ _ _ => none
  | .ack _ _ => none
  | .shortTransaction _ _ _ => none
  | .portReset _ _ _ _ => none
  | .prstNLow _ _ _ => none
  | .prstNRise _ => none
  | .powerOnReset _ => none
  | .rstNRelease => none

/-- The payload lengths of the request table (10.7); `none` for LOAD CUES, which has four, and for a
code that names no request. -/
def payloadLength (code : Byte) : Option Nat :=
  ([(0x01, 0), (0x02, 2), (0x03, 1), (0x04, 4), (0x05, 1), (0x06, 3), (0x07, 1), (0x08, 1),
    (0x09, 1), (0x0A, 1), (0x10, 13), (0x11, 3), (0x12, 1), (0x13, 2), (0x14, 4), (0x18, 3),
    (0x1A, 0), (0x1C, 1), (0x1D, 0), (0x20, 1), (0x21, 0), (0x22, 0), (0x23, 3), (0x28, 5),
    (0x29, 1), (0x2A, 0)] : List (Byte × Nat)).lookup code

/-- A port without the model's own numbers of its messages. -/
def plainPort (p : Port) : Port :=
  { p with
    replies := p.replies.map fun r => { r with draw := 0 }
    notices := p.notices.map fun n => { n with draw := 0 } }

/-- Port `p` after a notice has been posted to it in frame `frame` (R171, R175, R177). -/
def tell (frame : Word32) (p : Port) (b : NoticeBody) : Port :=
  if p.held then p else p.enqueue ⟨b, frame, 1, 0⟩

/-- Port `p` after notices have been posted to it one after another. -/
def tellAll (frame : Word32) (p : Port) (bs : List NoticeBody) : Port := bs.foldl (tell frame) p

/-- The notices of an event for each host. -/
abbrev Told := HostId → List NoticeBody

/-- No notice for any host. -/
def nobody : Told := fun _ => []

/-- The notices `bs` for host `h` and none for any other. -/
def only (h : HostId) (bs : List NoticeBody) : Told := fun g => if g = h then bs else []

/-- The timebase, the lanes, the books and run records, the compile queue and the proposal record of
`t` are those of `u`. -/
abbrev sameBlocks (t u : State) : Prop :=
  t.timebase = u.timebase ∧ t.lanes = u.lanes ∧ t.hosts = u.hosts ∧ t.jobs = u.jobs ∧
    t.proposal = u.proposal

/-- The pins, the port served last and the waiting commands of `t` are those of `s`. -/
abbrev samePins (s t : State) : Prop :=
  t.rstN = s.rstN ∧ t.rbk = s.rbk ∧ t.lastServed = s.lastServed ∧ t.pending = s.pending

/-- `t` is what an event leaves of `s`: its blocks are those of `u`, its ports those of `s` with the
notices `told` posted, and everything else as it was. -/
abbrev eventDone (s t : State) (told : Told) (u : State) : Prop :=
  samePins s t ∧ sameBlocks t u ∧
    ∀ g : HostId,
      plainPort (t.port g) = plainPort (tellAll s.timebase.frame (s.port g) (told g))

/-- The command answers a next state that `eventDone` describes. -/
def happens (c : Instr) (s : State) (told : Told) (u : State) : Prop :=
  ∃ t : State, exec c s = .next t ∧ eventDone s t told u

/-- Port `g` after the engine has taken request `q` of host `h`: the request gone from its queue, the
notices `told` posted in turn, and the reply at the tail of the requester's reply queue (R168,
R169). -/
def portAfter (s : State) (h : HostId) (q : Request) (o : ReplyCode) (r : Result) (told : Told)
    (g : HostId) : Port :=
  let p := s.port g
  if g = h then
    let p' := tellAll s.timebase.frame { p with inbound := p.inbound.tail } (told g)
    { p' with replies := p'.replies ++ [⟨q.seq, q.code, o, r, 0⟩] }
  else tellAll s.timebase.frame p (told g)

/-- `t` is what the taking of request `q` of host `h` leaves of `s`, answered with outcome `o` and
result fields `r`: the port served last is `h`, the blocks are those of `u`, the ports as
`portAfter` says, and everything else as it was. -/
abbrev requestDone (s t : State) (h : HostId) (q : Request) (o : ReplyCode) (r : Result)
    (told : Told) (u : State) : Prop :=
  t.rstN = s.rstN ∧ t.rbk = s.rbk ∧ t.pending = s.pending ∧ t.lastServed = h ∧ sameBlocks t u ∧
    ∀ g : HostId, plainPort (t.port g) = plainPort (portAfter s h q o r told g)

/-- The command answers a next state that `requestDone` describes. -/
def answers (c : Instr) (s : State) (h : HostId) (q : Request) (o : ReplyCode) (r : Result)
    (told : Told) (u : State) : Prop :=
  ∃ t : State, exec c s = .next t ∧ requestDone s t h q o r told u

/-- The command answers a next state in which the request is refused: a reply, and nothing else
(R169, R174). -/
def refuses (c : Instr) (s : State) (h : HostId) (q : Request) (o : ReplyCode) (r : Result) : Prop :=
  answers c s h q o r nobody s

/-- A host has a request waiting and its port is not held in reset (R168). -/
def waits (s : State) (h : HostId) : Bool := !(s.port h).held && !(s.port h).inbound.isEmpty

/-- How many ports the engine considers before port `h`, when the one served last is `last` (R168). -/
def turnsBefore (last h : HostId) : Nat := (h.val + 3 - last.val) % 4

/-- The width of a PULSE cue (R37). -/
def pulseWidth (c : Cue) : Option Nat :=
  match c.action with
  | .pulse _ w => some w
  | _ => none

/-- The discarded count of an OVERFLOW entry (R179). -/
def overflowCount (n : Notice) : Option Nat :=
  match n.body with
  | .overflow k => some k
  | _ => none

/-- The cues of a book that are on lane `l`: their action positions, in no order (R84). -/
def actionPositions (cues : List Cue) (l : LaneId) : List Nat :=
  (cues.filter fun c => c.lane? == some l).flatMap fun c =>
    match c.action with
    | .pulse _ w => [c.offset, c.offset + w]
    | _ => [c.offset]

/-- Any two of a lane's actions are at least `sp` apart, and so are any action of one frame and any
action of the next, for each frame length checked (R85). -/
abbrev spacedBy (sp : Nat) (lengths : List Nat) (ps : List Nat) : Prop :=
  ps.Pairwise (fun a b => sp ≤ (b - a) + (a - b)) ∧ ∀ f ∈ lengths, ∀ a ∈ ps, ∀ b ∈ ps, b + sp ≤ f + a

/-- Action `a` stands before action `b` on a lane: by position; at equal positions an offset before a
pulse end, and otherwise by the index of the cue (R84). -/
abbrev actsBefore (a b : ActionAt) : Prop :=
  a.position < b.position ∨
    (a.position = b.position ∧
      ((a.isEnd = false ∧ b.isEnd = true) ∨ (a.isEnd = b.isEnd ∧ a.index ≤ b.index)))

/-- The actions of a book's cues on lane `l`, in the order of the cues (R84). -/
def actionsOn (cues : List Cue) (l : LaneId) : List ActionAt :=
  (List.range cues.length).flatMap fun i =>
    (((cues[i]?.filter fun c => c.lane? == some l).map fun c =>
      ⟨c.offset, false, i⟩ ::
        ((pulseWidth c).map fun w => (⟨c.offset + w, true, i⟩ : ActionAt)).toList)).getD []

/-- The pairs of a lane's ordered actions in the order in which they are tested, the index of the later
action's cue first, with their distance: each action and the one before it, then the wrap from the last
to the first for each length (R85). -/
def testedPairs (lengths : List Nat) (acts : List ActionAt) : List (Nat × Nat × Nat) :=
  (acts.zip acts.tail).map (fun x => (x.2.index, x.1.index, x.2.position - x.1.position)) ++
    match acts.head?, acts.getLast? with
    | some a, some z => lengths.map fun f => (a.index, z.index, f + a.position - z.position)
    | _, _ => []

/-- The spacing a compile uses on a lane: the larger of that in force and that pending (R84). -/
def spacingOf (x : LaneRecord) : Nat := max x.settings.spacing ((x.pending.map (·.spacing)).getD 0)

/-- A host record after a change to AGREED with length `f`: READY and PENDING books that do not fit
are DRAFT without run list, and a swap to one of them is cancelled (R104, R154). -/
def demotedBy (f : Nat) (r : HostRecord) : HostRecord :=
  { r with
    bookA := if r.bookA.idleMisfit f then r.bookA.demoted else r.bookA
    bookB := if r.bookB.idleMisfit f then r.bookB.demoted else r.bookB
    run :=
      if (r.bookA.idleMisfit f && r.bookA.state == .pending) ||
          (r.bookB.idleMisfit f && r.bookB.state == .pending) then
        { r.run with action := .none }
      else r.run }

/-- The BOOK_DEMOTED notices of such a change for that host, book A first (R154, R175). -/
def demotionsTold (f : Nat) (r : HostRecord) : List NoticeBody :=
  (if r.bookA.idleMisfit f then [.bookDemoted .A] else []) ++
    (if r.bookB.idleMisfit f then [.bookDemoted .B] else [])

/-- The blocks after a change to AGREED of record `p` (R154). -/
def afterAgreement (s : State) (p : Proposal) : State :=
  { s with
    timebase := { s.timebase with nextLength := some p.newF }
    proposal := some { p with state := .agreed }
    hosts := Vector.ofFn fun g => demotedBy p.newF (s.host g) }

/-- What one tick leaves as it was in every port: all but the notices, the acknowledgment of a notice
that a later one has merged into, and the offer of one (R178). -/
abbrev samePortButNotices (p q : Port) : Prop :=
  q.inbound = p.inbound ∧ q.replies = p.replies ∧ q.admission = p.admission ∧ q.held = p.held ∧
    q.sdo = p.sdo

/-- A port after a valid ACK: the message named by the acknowledgment state is gone, and the state is
none (R163). -/
def acked (p : Port) : Port :=
  match p.ack with
  | .nothing => p
  | .reply => { p with replies := p.replies.drop 1, ack := .nothing }
  | .notice => { p with notices := p.notices.drop 1, ack := .nothing }

/-- `t` differs from `s` in port `h` alone, which is `p`. -/
abbrev onlyPort (s t : State) (h : HostId) (p : Port) : Prop :=
  samePins s t ∧ sameBlocks t s ∧ t.draws = s.draws ∧
    ∀ g : HostId, t.port g = if g = h then p else s.port g

/-- The message at the head of the outbound stream: a reply before any notice (R165). -/
def offers (p : Port) : Named :=
  if p.replies.isEmpty then (if p.notices.isEmpty then .nothing else .notice) else .reply

/-- A port after bytes 0 and 1 of a frame: the ACK of a valid control byte honoured (R162, R163). -/
def ackedBy (b0 b1 : Byte) (p : Port) : Port :=
  if b1 = ~~~b0 ∧ b0.getLsbD 7 = true then acked p else p

/-- The return frame of a transaction that port `p` takes, `q` being the port after the ACK: the
status and the flags as they stood at the fall of CS_n, and the message then at the head (R161). -/
def returned (p q : Port) : List Byte :=
  returnFrame p.admission.code (BitVec.ofNat 8 p.flags) q.head

/-- The kind of a frame by its control bytes (R162). -/
def kindOf (b0 b1 : Byte) : FrameKind :=
  if b1 = ~~~b0 then
    (if b0.toNat % 4 = 1 then .request else if b0.toNat % 4 = 2 then .portReset else .null)
  else .null

/-- Port `h` can take a transaction: no transaction on it, RST_n high, PRST_n high (R160, R171,
R173). -/
abbrev portFree (s : State) (h : HostId) : Prop :=
  s.rstN = true ∧ (s.port h).held = false ∧ (s.port h).link = .idle

/-- What a port has made of a transaction by the time its control byte is in: the port, the kind of the
frame, the return frame, and the message it offers. -/
structure Chosen where
  port : Port
  kind : FrameKind
  frame : List Byte
  offered : Named

/-- What port `h` makes of a transaction whose control bytes are `b0` and `b1`, whichever of its moments
have been taken: the ACK is honoured and then the message at the head is chosen, under the status and
the flags fixed at the fall of CS_n (R161 to R163). None where the port does not take the transaction
(R171, R173). -/
def chosen (s : State) (h : HostId) (b0 b1 : Byte) : Option Chosen :=
  let p := s.port h
  let q := ackedBy b0 b1 p
  match p.link with
  | .idle =>
    if s.rstN && !p.held then some ⟨q, kindOf b0 b1, returned p q, offers q⟩ else none
  | .selected r0 r1 => some ⟨q, kindOf b0 b1, returnFrame r0 r1 q.head, offers q⟩
  | .offering k f n => some ⟨p, k, f, n⟩
  | .lost _ => none

/-- What SDO has shown of a transaction in progress that the port does not take. -/
def shownOf (x : Link) : List Byte :=
  match x with
  | .lost bs => bs
  | _ => []

/-- A moment of a frame of any kind on port `h`. -/
def framesOf (h : HostId) (bytes : List Byte) (first : Bool) (part : TxnPart) : List Instr :=
  [.requestFrame h part bytes, .nullFrame h part bytes, .shortTransaction h part bytes,
    .portReset h part bytes first]

/-- Bytes 0 and 1 of the return frame of a transaction whose byte 1 has not been received. -/
def fixedBytes (x : Link) : Option (Byte × Byte) :=
  match x with
  | .selected b0 b1 => some (b0, b1)
  | _ => none

/-- Kind, return frame and offer of a transaction whose byte 1 has been received. -/
def chosenIn (x : Link) : Option (FrameKind × List Byte × Named) :=
  match x with
  | .offering k f n => some (k, f, n)
  | _ => none

/-- `y` is the link `x` once a transaction the port had taken up is abandoned, `sent` of its bytes
having been shifted out by then (R171, R173). -/
abbrev abandons (sent : Nat) (x y : Link) : Prop :=
  (takenUp x = false → y = x) ∧
    (∀ r ∈ fixedBytes x, y = .lost ([r.1, r.2].take sent)) ∧
    ∀ m ∈ chosenIn x, y = .lost (m.2.1.take sent)

/-- Byte 1 of the transaction in progress has been received. -/
def byte1Taken (x : Link) : Bool :=
  match x with
  | .offering _ _ _ => true
  | _ => false

/-- The moments of a transaction before its end: at the fall of CS_n the port fixes bytes 0 and 1 of
the return frame, its last admission status and its flags; once byte 1 is in, the ACK has been honoured
and the message to offer is chosen (R161 to R163). -/
abbrev momentsOf (c : TxnPart → Instr) (s : State) (h : HostId) (bytes : List Byte) : Prop :=
  (portFree s h →
      ∃ t : State, exec (c .select) s = .next t ∧
        onlyPort s t h
          { s.port h with
            link := .selected (s.port h).admission.code (BitVec.ofNat 8 (s.port h).flags) }) ∧
    (2 ≤ bytes.length → byte1Taken (s.port h).link = false →
      ∀ m ∈ chosen s h (bytes.getD 0 0) (bytes.getD 1 0),
        ∃ t : State, exec (c .control) s = .next t ∧
          onlyPort s t h { m.port with link := .offering m.kind m.frame m.offered })

/-- The next tick is an arrival of the frame now running (R1). -/
abbrev arrivalNext (s : State) : Prop := s.rstN = true ∧ s.timebase.position + 1 < s.timebase.f

/-- The next tick is the boundary tick (R1, R3). -/
abbrev boundaryNext (s : State) : Prop := s.rstN = true ∧ s.timebase.position + 1 = s.timebase.f

/-- The state as the next arrival finds its position (R1, R7). -/
def atNext (s : State) : State :=
  { s with timebase := { s.timebase with position := s.timebase.position + 1, fmark := false } }

/-- The frame length in force from the next boundary on (R3, R8). -/
def nextF (s : State) : Nat := s.timebase.nextLength.getD s.timebase.f

/-- No book of any host has a cue on lane `l` at offset 0. -/
abbrev noneAtZero (s : State) (l : LaneId) : Prop :=
  ∀ h : HostId, ∀ b ∈ allBooks, ∀ c ∈ (s.book h b).cues, c.lane? = some l → c.offset ≠ 0

/-- Host `g` neither holds lane `l` nor is the target of its offer. -/
abbrev strangerTo (s : State) (g : HostId) (l : LaneId) : Prop :=
  (s.lane l).holder ≠ some g ∧ (s.lane l).offer.map (·.target) ≠ some g

/-- Host `g` has nothing to do with any lane. -/
abbrev noLaneOf (s : State) (g : HostId) : Prop := ∀ l : LaneId, strangerTo s g l

/-- Host `g` has nothing to do with any lane but `l`. -/
abbrev noLaneBut (s : State) (g : HostId) (l : LaneId) : Prop := ∀ k : LaneId, k ≠ l → strangerTo s g k

/-- Host `g` has no active book and no pending action. -/
abbrev notRunning (s : State) (g : HostId) : Prop :=
  (s.run g).active = none ∧ (s.run g).action = .none

/-- The lane is HELD with no settings to apply and not watched: its reactions to a boundary tell no
host anything (R33, R136). -/
abbrev calmLane (x : Lane) : Prop := x.state = .held ∧ x.pending = none ∧ x.watched = false

/-- The lane table and the monitor tell host `g` nothing at the coming boundary. -/
abbrev quietLanes (s : State) (g : HostId) : Prop :=
  ∀ l : LaneId, strangerTo s g l ∨ calmLane (s.lane l)

/-- Nothing but the agreement unit tells host `g` anything at the coming boundary. -/
abbrev undisturbed (s : State) (g : HostId) : Prop :=
  (s.host g).load = none ∧ notRunning s g ∧ quietLanes s g

/-- The CUE_REACHED notices of host `g`'s due NOTE cues at the arrival `s` stands at, in run-list order
(R115). -/
def notesTold (s : State) (g : HostId) : List NoticeBody :=
  ((s.dueCues g).filter fun c => c.action == .note).map fun c => .cueReached c.tag

/-- Host `h` holds a lane once the lane table has reacted to the coming boundary (R33, R147). -/
abbrev holdsNext (s : State) (h : HostId) : Prop :=
  ∃ l : LaneId,
    (((s.lane l).state = .held ∨ (s.lane l).state = .offered) ∧ (s.lane l).holder = some h) ∨
      ((s.lane l).state = .handover ∧ (s.lane l).offer.map (·.target) = some h)

/-- The record without the voters that are lane-less at the coming boundary (R152 step 1). -/
def withVotersLeft (s : State) (p : Proposal) : Proposal :=
  { p with
    voters := HostSet.ofTest fun g => HostSet.has p.voters g && decide (holdsNext s g)
    yes := HostSet.ofTest fun g => HostSet.has p.yes g && decide (holdsNext s g) }

/-- Port `g` after `t` is what it was with the notices `bs` posted, stamped with the frame that begins
at the coming boundary (R3, R175). -/
abbrev toldAtBoundary (s t : State) (g : HostId) (bs : List NoticeBody) : Prop :=
  plainPort (t.port g) = plainPort (tellAll (s.timebase.frame + 1) (s.port g) bs)

/-- A pending check of lane `x` after one tick that leaves its level at `level` (R137). -/
def checkAfter (x : Lane) (level : Bool) : Option Nat :=
  if x.level ≠ level ∧ x.watched = true then some x.settings.settle else x.check.map (· - 1)

/-- A record of a fault on a watched lane whose pin read `observed` (R131, R140). -/
def faulted (x : Lane) (frame : Word32) (position : Nat) (observed : Bool) : Lane :=
  { x with
    state := if x.state = .offered then .held else x.state
    offer := if x.state = .offered then none else x.offer
    level := false, pulseEnd := none, check := none
    faultFlag := true, faultCount := x.faultCount + 1
    faultRecord := some ⟨frame, position, x.pin, observed⟩ }

/-- The pin shows the level mapped through the polarity in force (R15). -/
abbrev pinShows (x : LaneRecord) : Prop :=
  (x.settings.polarity = .activeHigh → x.pin = x.level) ∧
    (x.settings.polarity = .activeLow → x.pin = !x.level)

/-- The notices of a fault on lane `l` to host `k`: LANE_FAULT to the holder, and of an OFFERED lane
OFFER_ENDED to giver and target after it (R131, R144, R175). -/
def faultTold (l : LaneId) (x : LaneRecord) (k : HostId) : List NoticeBody :=
  (if x.holder = some k then [.laneFault l (x.faultCount + 1)] else []) ++
    if x.state = .offered ∧ (x.holder = some k ∨ x.offer.map (·.target) = some k) then
      [.offerEnded l .fault]
    else []

/-- Level and pulse end that the lane drivers give lane `l` at the arrival `s` stands at: those of the
last cue that starts, otherwise those of a pulse end, otherwise as they were (R16 to R19, R114). -/
def drivenTo (s : State) (l : LaneId) : Bool × Option Nat :=
  match (s.starting l).getLast?.map (·.action) with
  | some (Action.rise _) => (true, none)
  | some (Action.fall _) => (false, none)
  | some (Action.pulse _ w) => (true, some (s.timebase.position + w))
  | _ =>
    if (s.lane l).pulseEnd = some s.timebase.position then (false, none)
    else ((s.lane l).level, (s.lane l).pulseEnd)

/-- Watched lane `x`, its pending check taken, after the drivers have set level and pulse end: a change
of level sets a new check (R137). -/
def drivenWatched (x : Lane) (d : Bool × Option Nat) : Lane :=
  { x with
    level := d.1, pulseEnd := d.2
    check := if d.1 ≠ x.level then some x.settings.settle else none }

/-- The order of an arrival's reactions takes the change of lane `l` before its check (R138). -/
def changeFirst (order : List ArrivalReaction) (l : LaneId) : Bool :=
  order.contains (.drive l) && !(order.takeWhile (· != .drive l)).contains (.check l)

/-- The lane keeps what an arrival never changes. -/
abbrev sameHolding (x y : LaneRecord) : Prop :=
  y.holder = x.holder ∧ y.settings = x.settings ∧ y.pending = x.pending

/-- What a port reset of host `h` makes of a lane (R35, R133, R134); `giverHeld` says whether the
port of the lane's holder is held in reset. -/
def afterReset (h : HostId) (giverHeld : Bool) (x : Lane) : Lane :=
  let given : Lane :=
    { x with
      state := .retiring, offer := none
      level := if x.pulseEnd.isNone then false else x.level
      check :=
        if x.pulseEnd.isNone && x.level && x.watched then some x.settings.settle else x.check }
  let back : Lane := { x with state := .held, offer := none }
  let mine := x.holder == some h
  let tomine := x.offer.map (·.target) == some h
  match x.state with
  | .held => if mine then given else x
  | .offered => if mine then given else if tomine then back else x
  | .handover => if mine then x else if tomine then (if giverHeld then given else back) else x
  | .free => x
  | .retiring => x

/-- What a port reset of host `h` makes of the proposal record, the next length and the books of the
other hosts (R158, R159). -/
def recordAfterReset (s : State) (h : HostId) : State :=
  match s.proposal with
  | none => s
  | some p =>
    if p.proposer = h then
      { s with
        proposal := none
        timebase := { s.timebase with
          nextLength := if p.state = .agreed then none else s.timebase.nextLength } }
    else
      let p' : Proposal :=
        { p with
          voters := HostSet.ofTest fun g => g != h && HostSet.has p.voters g
          yes := HostSet.ofTest fun g => g != h && HostSet.has p.yes g }
      if HostSet.has p.voters h = true then
        if p.state = .opened ∧ p'.yes = p'.voters then afterAgreement s p'
        else { s with proposal := some p' }
      else s

/-- The OFFER_ENDED notices that the lane table posts to host `g` at a port reset of host `h`, in lane
order: of an OFFERED lane to the other of giver and target, of a HANDOVER lane to the giver when its
target is reset (R133, R134, R175). -/
def resetEndsOffers (s : State) (h g : HostId) : List NoticeBody :=
  (allLanes.filter fun l =>
    let holder := (s.lane l).holder
    let target := (s.lane l).offer.map (·.target)
    ((s.lane l).state == .offered &&
        ((holder == some h && target == some g) || (holder == some g && target == some h))) ||
      ((s.lane l).state == .handover && holder == some g && target == some h)).map fun l =>
    .offerEnded l .reset

/-- The notices that the agreement unit posts to host `g` at a port reset of host `h`: the proposer's
reset ends the proposal WITHDRAWN, and a voter's reset that completes the yes set demotes (R158,
R159). -/
def resetEndsProposal (s : State) (h g : HostId) : List NoticeBody :=
  match s.proposal with
  | none => []
  | some p =>
    if p.proposer = h then
      (if HostSet.has p.voters g = true then [.proposalEnded .withdrawn] else [])
    else if HostSet.has p.voters h = true ∧ p.state = .opened ∧
        ∀ k : HostId, k ≠ h → HostSet.has p.yes k = HostSet.has p.voters k then
      demotionsTold p.newF (s.host g)
    else []

/-- `t` is what a port reset of host `h` leaves of `s` in the blocks and in the other ports, the
agreement unit's notices before the lane table's or after them (R35, R60, R74, R95, R118, R158, R159,
R170, R175). -/
abbrev sessionReset (s t : State) (h : HostId) (agreementFirst : Bool) : Prop :=
  samePins s t ∧ t.timebase = (recordAfterReset s h).timebase ∧
    t.proposal = (recordAfterReset s h).proposal ∧
    t.jobs = s.jobs.filter (fun j => j.host != h) ∧
    (∀ g : HostId,
      t.host g = if g = h then HostRecord.initial else (recordAfterReset s h).host g) ∧
    (∀ l : LaneId,
      t.lane l =
        afterReset h
          (match (s.lane l).holder with
            | some g => (s.port g).held
            | none => false)
          (s.lane l)) ∧
    ∀ g : HostId, g ≠ h →
      plainPort (t.port g) =
        plainPort
          (tellAll s.timebase.frame (s.port g)
            (if agreementFirst = true then resetEndsProposal s h g ++ resetEndsOffers s h g
            else resetEndsOffers s h g ++ resetEndsProposal s h g))

/-! ### The layouts of the link (10.7) -/

/-- The outcome codes of 10.7, from 0x00 on. -/
def outcomeTable : List ReplyCode :=
  [.done, .accepted, .complete, .agreed, .badRequest, .badArgument, .notHolder, .held,
    .alreadyHeld, .retiring, .offered, .handover, .inUse, .faulted, .notFaulted, .faultLimit,
    .noOffer, .compiling, .pending, .active, .alreadyActive, .loading, .noLoad, .late,
    .mode, .busy, .nothingPending, .noSpace, .doesNotFit, .notVoter, .noProposal]

/-- The admission statuses of 10.7, from 0x00 on. -/
def admissionTable : List Admission := [.none, .accepted, .full, .crc, .length, .short]

/-- The lane states of 10.7, from 0 on. -/
def laneStateTable : List LaneState := [.free, .held, .offered, .handover, .retiring]

/-- The book states of 10.7, from 0 on. -/
def bookStateTable : List BookState := [.draft, .compiling, .ready, .pending, .active]

/-- The report outcomes of 10.7, 0 standing for none. -/
def reportTable : List (Option ReportOutcome) :=
  [none, some .ready, some .notHolder, some .noFit, some .noteLimit, some .spacing]

/-- The offer reasons of 10.7, from 0 on. -/
def reasonTable : List OfferReason := [.withdrawn, .declined, .expired, .fault, .reset]

/-- The proposal outcomes of 10.7, from 0 on. -/
def proposalTable : List ProposalOutcome := [.rejected, .expired, .withdrawn]

/-- The pending actions of 10.7, from 0 on. -/
def actionTable : List PendingAction := [.none, .swapTo .A, .swapTo .B, .halt]

/-- A number in one byte. -/
def byteOf (n : Nat) : Byte := BitVec.ofNat 8 n

/-- A number in two bytes, most significant first (10.7). -/
def bytes2 (n : Nat) : List Byte := [byteOf (n / 256), byteOf n]

/-- A number in four bytes, most significant first (10.7). -/
def bytes4 (n : Nat) : List Byte := bytes2 (n / 65536) ++ bytes2 n

/-- The byte of a host, 0xFF absent (10.7). -/
def hostByte (h : Option HostId) : Byte := (h.map fun g => byteOf g.val).getD 0xFF

/-- The byte of a book, 0xFF none (10.7). -/
def bookByte (b : Option BookId) : Byte :=
  if b = some .A then 0 else if b = some .B then 1 else 0xFF

/-- A book as a number. -/
def bookNumber (b : BookId) : Nat := if b = .A then 0 else 1

/-- The byte of a host set: bit n set for host Hn (10.7). -/
def hostSetByte (x : HostSet) : Byte :=
  byteOf ((if HostSet.has x 0 then 1 else 0) + (if HostSet.has x 1 then 2 else 0) +
    (if HostSet.has x 2 then 4 else 0) + if HostSet.has x 3 then 8 else 0)

/-- The settings in three bytes: bit 0 active-low, bit 1 readback on, then spacing and settle
(10.7). -/
def settingsBytes (x : Settings) : List Byte :=
  [byteOf ((if x.polarity = .activeLow then 1 else 0) + if x.readback then 2 else 0),
    byteOf x.spacing, byteOf x.settle]

/-- The kind and the subject fields of a notice; of a report only what is present is stated, so a
COMPILE_DONE is given up to its second index (10.7). -/
def noticeTable : NoticeBody → Nat × List Byte
  | .cueReached t => (0x01, bytes2 t.toNat)
  | .bookActive b => (0x02, [bookByte (some b)])
  | .turnSkipped b st => (0x03, [bookByte (some b), byteOf (bookStateTable.idxOf st)])
  | .halted b => (0x04, [bookByte (some b)])
  | .compileDone b r =>
    (0x05,
      [bookByte (some b), byteOf (reportTable.idxOf (some r.outcome))] ++
        bytes2 (r.index.getD 0xFFFF) ++ bytes2 (r.second.getD 0xFFFF) ++
          (r.tag.map fun t => bytes2 t.toNat).getD [])
  | .bookDemoted b => (0x06, [bookByte (some b)])
  | .loadTimeout b n => (0x07, bookByte (some b) :: bytes2 n)
  | .laneFreed l => (0x08, [byteOf l.val])
  | .offerMade l g e => (0x09, [byteOf l.val, byteOf g.val, byteOf e])
  | .offerEnded l r => (0x0A, [byteOf l.val, byteOf (reasonTable.idxOf r)])
  | .handoverDone l g t => (0x0B, [byteOf l.val, byteOf g.val, byteOf t.val])
  | .laneFault l n => (0x0C, [byteOf l.val, byteOf n])
  | .proposalOpen p f w => (0x0D, byteOf p.val :: bytes4 f ++ [byteOf w])
  | .proposalEnded o => (0x0E, [byteOf (proposalTable.idxOf o)])
  | .frameLength f n => (0x0F, bytes4 f ++ bytes4 n.toNat)
  | .overflow n => (0x10, [byteOf n])

/-- The subject key of a notice as a number, 0 for a kind that matches by the kind alone; none for
OVERFLOW, which does not merge (R176). -/
def noticeKey : NoticeBody → Option Nat
  | .cueReached t => some t.toNat
  | .bookActive b => some (bookNumber b)
  | .turnSkipped b _ => some (bookNumber b)
  | .halted b => some (bookNumber b)
  | .compileDone b _ => some (bookNumber b)
  | .bookDemoted b => some (bookNumber b)
  | .loadTimeout b _ => some (bookNumber b)
  | .laneFreed l => some l.val
  | .offerMade l _ _ => some l.val
  | .offerEnded l _ => some l.val
  | .handoverDone l _ _ => some l.val
  | .laneFault l _ => some l.val
  | .proposalOpen _ _ _ => some 0
  | .proposalEnded _ => some 0
  | .frameLength _ _ => some 0
  | .overflow _ => none

/-- Two notices match: the same kind, a kind that merges, and equal keys (R176). -/
abbrev keysAgree (a b : NoticeBody) : Prop :=
  (noticeTable a).1 = (noticeTable b).1 ∧ noticeKey a = noticeKey b ∧ noticeKey a ≠ none

/-- The result fields of a reply that carries neither a status block, a lane record nor a book
(10.7). -/
def resultTable : Result → Option (List Byte)
  | .none => some []
  | .status _ => none
  | .lanes m => some (bytes2 m.toNat)
  | .lane l => some [byteOf l.val]
  | .laneHost l h => some [byteOf l.val, byteOf h.val]
  | .laneRecord _ => none
  | .offer l t e => some [byteOf l.val, byteOf t.val, byteOf e]
  | .accepted l g n => some ([byteOf l.val, byteOf g.val] ++ bytes4 n.toNat)
  | .faultCount l n => some [byteOf l.val, byteOf n]
  | .book st n => some (byteOf (bookStateTable.idxOf st) :: bytes2 n)
  | .bookRead _ _ _ _ => none
  | .loadOpened b l n => some (bookByte (some b) :: bytes2 l ++ bytes2 n)
  | .loadProgress b r n => some (bookByte (some b) :: bytes2 r ++ bytes2 n)
  | .loadComplete b n => some (bookByte (some b) :: bytes2 n)
  | .failingCue k => some [byteOf k]
  | .loadCancelled b r n => some (bookByte (some b) :: bytes2 r ++ bytes2 n)
  | .compiling b n a => some (bookByte (some b) :: bytes2 n ++ [byteOf a])
  | .bookOnly b => some [bookByte (some b)]
  | .swap b st n =>
    some ([bookByte (some b), byteOf (bookStateTable.idxOf st)] ++ bytes4 n.toNat)
  | .swapRefused b st =>
    some [bookByte b, (st.map fun x => byteOf (bookStateTable.idxOf x)).getD 0xFF]
  | .halt b n => some (bookByte (some b) :: bytes4 n.toNat)
  | .mode m a t => some [if m = .single then 0 else 1, bookByte a, byteOf t]
  | .proposal f w v => some (bytes4 f ++ [byteOf w, hostSetByte v])
  | .voteEnded o => some [byteOf (proposalTable.idxOf o)]
  | .votersLeft n => some [byteOf n]

/-- The bytes of a lane record `r`: every field that is present at its place, and the flags that say
which are (10.7). What stands in the place of an absent field is not stated. -/
abbrev laneRecordLayout (r : LaneRecord) (bs : List Byte) : Prop :=
  bs.length = 24 ∧
    bs.take 5 =
      [byteOf (laneStateTable.idxOf r.state), hostByte r.holder] ++ settingsBytes r.settings ∧
    (∀ x ∈ r.pending, (bs.drop 5).take 3 = settingsBytes x) ∧
    ((bs.getD 8 0).getLsbD 0 = r.level ∧ (bs.getD 8 0).getLsbD 1 = r.pending.isSome ∧
      (bs.getD 8 0).getLsbD 2 = r.pulseEnd.isSome ∧ (bs.getD 8 0).getLsbD 3 = r.offer.isSome ∧
      (bs.getD 8 0).getLsbD 4 = r.faultFlag ∧ (bs.getD 8 0).getLsbD 5 = r.faultRecord.isSome) ∧
    (∀ e ∈ r.pulseEnd, (bs.drop 9).take 4 = bytes4 e) ∧
    bs.getD 13 0 = hostByte (r.offer.map (·.target)) ∧
    (∀ o ∈ r.offer, bs.getD 14 0 = byteOf (o.remaining.getD 0)) ∧
    bs.getD 15 0 = byteOf r.faultCount ∧
    ∀ x ∈ r.faultRecord,
      bs.drop 16 = bytes4 x.frame.toNat ++ bytes4 x.position ∧
        (bs.getD 8 0).getLsbD 6 = x.expectedHigh ∧ (bs.getD 8 0).getLsbD 7 = x.observedHigh

/-- The 48 bytes of a status block (10.7, R181). -/
abbrev statusLayout (b : StatusBlock) (bs : List Byte) : Prop :=
  bs.length = 48 ∧
    bs.take 12 = bytes4 b.frame.toNat ++ bytes4 b.position ++ bytes4 b.f ∧
    (b.proposal = none → (bs.drop 12).take 7 = List.replicate 7 0) ∧
    (∀ p ∈ b.proposal,
      (bs.drop 12).take 7 =
        byteOf ((if p.state = .opened then 64 else 128) + p.proposer.val) :: bytes4 p.newF ++
          [byteOf p.window,
            byteOf ((hostSetByte p.yes).toNat * 16 + (hostSetByte p.voters).toNat)]) ∧
    (∀ l : LaneId,
      bs.getD (19 + l.val) 0 =
        byteOf (laneStateTable.idxOf b.lanes[l.val].1 * 32 +
          (b.lanes[l.val].2.map (·.val)).getD 0)) ∧
    bs.drop 35 =
      byteOf (bookStateTable.idxOf b.stateA * 16 + bookStateTable.idxOf b.stateB) ::
        bytes2 b.lengthA ++ bytes2 b.lengthB ++ bytes2 b.slots ++ bytes2 b.commonFree ++
        [byteOf ((if b.run.mode = .single then 0 else 128) +
            (if b.run.active = some .A then 0 else if b.run.active = some .B then 16 else 48) +
            actionTable.idxOf b.run.action),
          byteOf b.run.runA, byteOf b.run.runB, byteOf b.run.turn]

/-- The ten bytes of a cue: the width's place is free where the cue has no width (10.7). -/
abbrev cueLayout (c : Cue) (bs : List Byte) : Prop :=
  bs.length = 10 ∧
    bs.getD 0 0 =
      byteOf (match c.action with
        | .rise l => l.val
        | .fall l => 64 + l.val
        | .pulse l _ => 128 + 32 + l.val
        | .note => 192 + 31) ∧
    (bs.drop 1).take 3 = (bytes4 c.offset).drop 1 ∧
    (∀ w ∈ pulseWidth c, (bs.drop 4).take 2 = bytes2 w) ∧
    bs.drop 6 = [byteOf c.every, byteOf c.phase] ++ bytes2 c.tag.toNat

/-- The bytes of a BOOK READ reply: book state with report outcome, length, the report's indices and
tag, and then the cues, ten bytes each (10.7). -/
abbrev bookReadLayout (st : BookState) (n : Nat) (r : Option Report) (cs : List Cue)
    (bs : List Byte) : Prop :=
  bs.length = 9 + 10 * cs.length ∧
    bs.take 7 =
      byteOf (bookStateTable.idxOf st * 16 + reportTable.idxOf (r.map (·.outcome))) ::
        bytes2 n ++ bytes2 ((r.bind (·.index)).getD 0xFFFF) ++
          bytes2 ((r.bind (·.second)).getD 0xFFFF) ∧
    (∀ t ∈ r.bind (·.tag), (bs.drop 7).take 2 = bytes2 t.toNat) ∧
    ∀ i ∈ List.range cs.length, ∀ c ∈ cs[i]?, cueLayout c ((bs.drop (9 + 10 * i)).take 10)

/-- The bytes `bs` of result fields `r` (10.7). -/
abbrev resultLayout (r : Result) (bs : List Byte) : Prop :=
  match r with
  | .status b => statusLayout b bs
  | .laneRecord x => laneRecordLayout x bs
  | .bookRead st n p cs => bookReadLayout st n p cs bs
  | r => resultTable r = some bs

/-- The notice is of a report without a tag, in whose place two bytes stand that are not stated
(10.7). -/
def lacksTag (b : NoticeBody) : Bool :=
  match b with
  | .compileDone _ r => r.tag.isNone
  | _ => false

end Sys2Proof.Safety
end

