-- ==== Sys2Proof/Certificates/Slice0/Obligations.lean ====
section
/-!
DEFINITION. The statements for the provers. Each docstring names the rules the statement formalises,
and, where it rests on the model's own choice, the log entry.
-/

open Sys2Proof Sys2Proof.Machine Sys2Proof.Safety

/-! ### Commands and the request engine -/

/-- A step runs the command at the front of the queue on the state with the queue's rest, and idles on
an empty queue: the model's own queue, notes/assumptions/1.md. -/
def Obligations.StepRunsFront : Prop :=
  (∀ (c : Instr) (rest : List Instr) (s : State),
      s.pending = c :: rest → step s = exec c { s with pending := rest }) ∧
    ∀ s : State, s.pending = [] → step s = .next s

/-- The engine takes the oldest request of the first waiting port in round-robin order after the one
it served last, and skips a port held in reset; a waiting port that is not served comes strictly
nearer to its turn (R168). -/
def Obligations.EngineRoundRobin : Prop :=
  ∀ (s : State) (h : HostId) (r : Request),
    (s.nextRequest = some (h, r) ↔
        s.rstN = true ∧ waits s h = true ∧ (s.port h).inbound.head? = some r ∧
          ∀ g : HostId, waits s g = true →
            turnsBefore s.lastServed h ≤ turnsBefore s.lastServed g) ∧
      (s.nextRequest = some (h, r) →
        ∀ g : HostId, g ≠ h → waits s g = true →
          turnsBefore h g < turnsBefore s.lastServed g)

/-- A request that the engine takes is always answered, with exactly one reply, at the tail of the
requester's reply queue, that carries its sequence number and code; the request has left its queue,
no other port's requests or replies change, and the port is the one served last (R168, R169, R174). -/
def Obligations.TakenRequestAnswered : Prop :=
  ∀ (c : Instr) (h : HostId) (q : Request) (s : State),
    requestOf c = some (h, q) → s.nextRequest = some (h, q) →
      ∃ t : State, exec c s = .next t ∧ t.lastServed = h ∧
        (t.port h).inbound = (s.port h).inbound.drop 1 ∧
        (t.port h).replies.dropLast = (s.port h).replies ∧
        (t.port h).replies.getLast?.map (fun r => (r.seq, r.code)) = some (q.seq, q.code) ∧
        ∀ g : HostId, g ≠ h →
          (t.port g).inbound = (s.port g).inbound ∧ (t.port g).replies = (s.port g).replies

/-- The model's choices of notes/assumptions/2.md and 3.md: a command whose event cannot occur changes
nothing, and an occurrence inside a tick is that tick. -/
def Obligations.OccurrenceOrNothing : Prop :=
  (∀ (c : Instr) (h : HostId) (q : Request) (s : State),
      requestOf c = some (h, q) → s.nextRequest ≠ some (h, q) → exec c s = .next s) ∧
    ∀ (l : LaneId) (h : HostId) (b : BoundaryIn) (s : State),
      (¬ arrivalNext s → exec (.arrival b.start) s = .next s) ∧
        (¬ boundaryNext s → exec (.frameBoundary b) s = .next s) ∧
        exec (.pulseEnd l b) s =
          (if (s.lane l).pulseEnd = some (s.timebase.position + 1) then
            (if arrivalNext s then exec (.arrival b.start) s else exec (.frameBoundary b) s)
          else .next s) ∧
        exec (.readbackCheck l b) s =
          (if (s.lane l).check = some 1 then
            (if arrivalNext s then exec (.arrival b.start) s else exec (.frameBoundary b) s)
          else .next s) ∧
        exec (.offerExpiry l b) s =
          (if (s.lane l).state = .offered ∧ (s.lane l).offer.bind (·.remaining) = some 1 then
            exec (.frameBoundary b) s
          else .next s) ∧
        exec (.loadIdleTimeout h b) s =
          (if (s.host h).load.map (·.idle) = some 7 then exec (.frameBoundary b) s
          else .next s) ∧
        exec (.alternationTurn h b) s =
          (if (s.run h).mode = .alternate ∧ (s.run h).turn = 1 then exec (.frameBoundary b) s
          else .next s) ∧
        exec (.proposalExpiry b) s =
          (if s.proposalExpiresNext = true then exec (.frameBoundary b) s else .next s)

/-- A code that names no request is answered BAD_REQUEST; a payload of the wrong length is answered
BAD_ARGUMENT (a SWAP's with the book and state bytes that name none, notes/assumptions/13.md). Neither
changes anything (R169). -/
def Obligations.BadRequests : Prop :=
  (∀ (h : HostId) (seq code : Byte) (payload : List Byte) (s : State),
      code ∉ codesOfRequests → s.nextRequest = some (h, ⟨seq, code, payload⟩) →
        refuses (.badRequest h seq code payload) s h ⟨seq, code, payload⟩ .badRequest .none) ∧
    ∀ (c : Instr) (h : HostId) (q : Request) (s : State),
      requestOf c = some (h, q) → s.nextRequest = some (h, q) →
        ((∀ n ∈ payloadLength q.code, q.payload.length ≠ n →
            refuses c s h q .badArgument
              (if q.code = 0x20 then .swapRefused none none else .none)) ∧
          (q.code = 0x19 → q.payload.length ∉ [10, 20, 30, 40] →
            refuses c s h q .badArgument .none))

/-- STATUS, LANE QUERY and BOOK READ return what stands when they are taken and change nothing else
(R181, R31, R53, R54). That STATUS carries of a lane no settings in force and no offer field is the
model's choice between R30 and R129, and R31 and R181 (notes/assumptions/26.md). -/
def Obligations.ReadingRequests : Prop :=
  ∀ (h : HostId) (seq x i1 i0 count : Byte) (s : State),
    (s.nextRequest = some (h, ⟨seq, 0x01, []⟩) →
        answers (.status h seq []) s h ⟨seq, 0x01, []⟩ .done
          (.status
            ⟨s.timebase.frame, s.timebase.position, s.timebase.f, s.proposal,
              Vector.ofFn fun l => ((s.lane l).state, (s.lane l).holder),
              (s.host h).bookA.state, (s.host h).bookB.state, (s.host h).bookA.cues.length,
              (s.host h).bookB.cues.length, (s.host h).slots,
              512 - (((s.host 0).slots - 128) + ((s.host 1).slots - 128) +
                ((s.host 2).slots - 128) + ((s.host 3).slots - 128)),
              (s.host h).run⟩)
          nobody s) ∧
      (s.nextRequest = some (h, ⟨seq, 0x05, [x]⟩) →
        (15 < x.toNat →
            refuses (.laneQuery h seq [x]) s h ⟨seq, 0x05, [x]⟩ .badArgument .none) ∧
          ∀ l : LaneId, x.toNat = l.val →
            answers (.laneQuery h seq [x]) s h ⟨seq, 0x05, [x]⟩ .done
              (.laneRecord (s.lane l).toLaneRecord) nobody s) ∧
      (s.nextRequest = some (h, ⟨seq, 0x14, [x, i1, i0, count]⟩) →
        (bookOfByte x = none ∨ count.toNat = 0 ∨ 4 < count.toNat →
            refuses (.bookRead h seq [x, i1, i0, count]) s h ⟨seq, 0x14, [x, i1, i0, count]⟩
              .badArgument .none) ∧
          ∀ b ∈ bookOfByte x, 1 ≤ count.toNat → count.toNat ≤ 4 →
            ((s.book h b).cues.length < i1.toNat * 256 + i0.toNat →
                refuses (.bookRead h seq [x, i1, i0, count]) s h
                  ⟨seq, 0x14, [x, i1, i0, count]⟩ .badArgument .none) ∧
              (i1.toNat * 256 + i0.toNat ≤ (s.book h b).cues.length →
                answers (.bookRead h seq [x, i1, i0, count]) s h ⟨seq, 0x14, [x, i1, i0, count]⟩
                  .done
                  (.bookRead (s.book h b).state (s.book h b).cues.length (s.book h b).report
                    (((s.book h b).cues.drop (i1.toNat * 256 + i0.toNat)).take count.toNat))
                  nobody s))

/-! ### Lane requests -/

/-- CLAIM grants every named lane or none, and a refusal names the first lane that is not FREE (R21,
R22). -/
def Obligations.ClaimRequest : Prop :=
  ∀ (h : HostId) (seq hi lo : Byte) (s : State),
    s.nextRequest = some (h, ⟨seq, 0x02, [hi, lo]⟩) →
      ((hi = 0 ∧ lo = 0 →
          refuses (.claim h seq [hi, lo]) s h ⟨seq, 0x02, [hi, lo]⟩ .badArgument .none) ∧
        (¬ (hi = 0 ∧ lo = 0) →
          (∀ l : LaneId, (hi ++ lo).getLsbD l.val = true → (s.lane l).state = .free) →
            answers (.claim h seq [hi, lo]) s h ⟨seq, 0x02, [hi, lo]⟩ .done (.lanes (hi ++ lo))
              nobody
              { s with
                lanes := Vector.ofFn fun l =>
                  if (hi ++ lo).getLsbD l.val then
                    { s.lane l with state := .held, holder := some h, faultCount := 0 }
                  else s.lane l }) ∧
        ∀ l : LaneId, (hi ++ lo).getLsbD l.val = true → (s.lane l).state ≠ .free →
          (∀ k : LaneId, k < l → (hi ++ lo).getLsbD k.val = true → (s.lane k).state = .free) →
            ((s.lane l).state = .retiring →
                refuses (.claim h seq [hi, lo]) s h ⟨seq, 0x02, [hi, lo]⟩ .retiring (.lane l)) ∧
              ((s.lane l).state ≠ .retiring → (s.lane l).holder = some h →
                refuses (.claim h seq [hi, lo]) s h ⟨seq, 0x02, [hi, lo]⟩ .alreadyHeld
                  (.lane l)) ∧
              ((s.lane l).state ≠ .retiring → ∀ g ∈ (s.lane l).holder, g ≠ h →
                refuses (.claim h seq [hi, lo]) s h ⟨seq, 0x02, [hi, lo]⟩ .held
                  (.laneHost l g)))

/-- RELEASE: the table of R24, and what the lane becomes (R24, R25). -/
def Obligations.ReleaseRequest : Prop :=
  ∀ (h : HostId) (seq x : Byte) (s : State),
    s.nextRequest = some (h, ⟨seq, 0x03, [x]⟩) →
      ((15 < x.toNat → refuses (.release h seq [x]) s h ⟨seq, 0x03, [x]⟩ .badArgument .none) ∧
        ∀ l : LaneId, x.toNat = l.val →
          ((s.lane l).state = .free ∨ (s.lane l).holder ≠ some h →
              refuses (.release h seq [x]) s h ⟨seq, 0x03, [x]⟩ .notHolder .none) ∧
            ((s.lane l).holder = some h →
              ((s.lane l).state = .retiring →
                  refuses (.release h seq [x]) s h ⟨seq, 0x03, [x]⟩ .retiring .none) ∧
                ((s.lane l).state = .offered →
                  refuses (.release h seq [x]) s h ⟨seq, 0x03, [x]⟩ .offered .none) ∧
                ((s.lane l).state = .handover →
                  refuses (.release h seq [x]) s h ⟨seq, 0x03, [x]⟩ .handover .none) ∧
                ((s.lane l).state = .held →
                  answers (.release h seq [x]) s h ⟨seq, 0x03, [x]⟩ .done (.lane l) nobody
                    (s.setLane l
                      (if (s.lane l).pulseEnd.isNone then
                        { s.lane l with
                          state := .retiring, level := false
                          check :=
                            if (s.lane l).level && (s.lane l).settings.readback &&
                                !(s.lane l).faultFlag then
                              some (s.lane l).settings.settle
                            else (s.lane l).check }
                      else { s.lane l with state := .retiring })))))

/-- LANE SET: the table of R27 with the spacing test of R28, and the settings staged. That bits 7 to 2
of the flags byte are not read is the model's choice (notes/assumptions/11.md). -/
def Obligations.LaneSetRequest : Prop :=
  ∀ (h : HostId) (seq x flags spacing settle : Byte) (s : State),
    s.nextRequest = some (h, ⟨seq, 0x04, [x, flags, spacing, settle]⟩) →
      ((15 < x.toNat ∨ spacing.toNat = 0 ∨ settle.toNat = 0 ∨ 15 < settle.toNat →
          refuses (.laneSet h seq [x, flags, spacing, settle]) s h
            ⟨seq, 0x04, [x, flags, spacing, settle]⟩ .badArgument .none) ∧
        ∀ l : LaneId, x.toNat = l.val → 1 ≤ spacing.toNat → 1 ≤ settle.toNat →
          settle.toNat ≤ 15 →
          ((s.lane l).state = .free ∨ (s.lane l).holder ≠ some h →
              refuses (.laneSet h seq [x, flags, spacing, settle]) s h
                ⟨seq, 0x04, [x, flags, spacing, settle]⟩ .notHolder .none) ∧
            ((s.lane l).holder = some h →
              ((s.lane l).state = .retiring →
                  refuses (.laneSet h seq [x, flags, spacing, settle]) s h
                    ⟨seq, 0x04, [x, flags, spacing, settle]⟩ .retiring .none) ∧
                ((s.lane l).state = .handover →
                  refuses (.laneSet h seq [x, flags, spacing, settle]) s h
                    ⟨seq, 0x04, [x, flags, spacing, settle]⟩ .handover .none) ∧
                ((s.lane l).state = .held ∨ (s.lane l).state = .offered →
                  ((s.lane l).settings.spacing < spacing.toNat →
                    (∃ b ∈ allBooks, (s.book h b).state ∈
                        [BookState.ready, .pending, .active] ∧
                      ∃ c ∈ (s.book h b).cues, c.lane? = some l) →
                      refuses (.laneSet h seq [x, flags, spacing, settle]) s h
                        ⟨seq, 0x04, [x, flags, spacing, settle]⟩ .inUse .none) ∧
                    (¬ ((s.lane l).settings.spacing < spacing.toNat ∧
                        ∃ b ∈ allBooks, (s.book h b).state ∈
                            [BookState.ready, .pending, .active] ∧
                          ∃ c ∈ (s.book h b).cues, c.lane? = some l) →
                      answers (.laneSet h seq [x, flags, spacing, settle]) s h
                        ⟨seq, 0x04, [x, flags, spacing, settle]⟩ .done (.lane l) nobody
                        (s.setLane l
                          { s.lane l with
                            pending :=
                              some ⟨if flags.getLsbD 0 then .activeLow else .activeHigh,
                                spacing.toNat, flags.getLsbD 1, settle.toNat⟩ })))))

/-- OFFER: the tests of R121 in order, and the offer made (R121, R122). -/
def Obligations.OfferRequest : Prop :=
  ∀ (h : HostId) (seq x y e : Byte) (s : State),
    s.nextRequest = some (h, ⟨seq, 0x06, [x, y, e]⟩) →
      ((15 < x.toNat ∨ 3 < y.toNat ∨ e.toNat = 0 ∨ 64 < e.toNat →
          refuses (.offer h seq [x, y, e]) s h ⟨seq, 0x06, [x, y, e]⟩ .badArgument .none) ∧
        ∀ (l : LaneId) (g : HostId), x.toNat = l.val → y.toNat = g.val → 1 ≤ e.toNat →
          e.toNat ≤ 64 →
          (g = h →
              refuses (.offer h seq [x, y, e]) s h ⟨seq, 0x06, [x, y, e]⟩ .badArgument .none) ∧
            (g ≠ h →
              ((s.lane l).holder ≠ some h →
                  refuses (.offer h seq [x, y, e]) s h ⟨seq, 0x06, [x, y, e]⟩ .notHolder
                    .none) ∧
                ((s.lane l).holder = some h →
                  ((s.lane l).state = .retiring →
                      refuses (.offer h seq [x, y, e]) s h ⟨seq, 0x06, [x, y, e]⟩ .retiring
                        .none) ∧
                    ((s.lane l).state = .offered →
                      refuses (.offer h seq [x, y, e]) s h ⟨seq, 0x06, [x, y, e]⟩ .offered
                        .none) ∧
                    ((s.lane l).state = .handover →
                      refuses (.offer h seq [x, y, e]) s h ⟨seq, 0x06, [x, y, e]⟩ .handover
                        .none) ∧
                    ((s.lane l).state = .held →
                      ((s.lane l).faultFlag = true →
                          refuses (.offer h seq [x, y, e]) s h ⟨seq, 0x06, [x, y, e]⟩ .faulted
                            .none) ∧
                        ((s.lane l).faultFlag = false → (s.port g).held = true →
                          refuses (.offer h seq [x, y, e]) s h ⟨seq, 0x06, [x, y, e]⟩
                            .badArgument .none) ∧
                        ((s.lane l).faultFlag = false → (s.port g).held = false →
                          answers (.offer h seq [x, y, e]) s h ⟨seq, 0x06, [x, y, e]⟩ .done
                            (.offer l g e.toNat) (only g [.offerMade l h e.toNat])
                            (s.setLane l
                              { s.lane l with
                                state := .offered, offer := some ⟨g, some e.toNat⟩ }))))))

/-- WITHDRAW: the tests of R123 in order, and the offer ended. -/
def Obligations.WithdrawRequest : Prop :=
  ∀ (h : HostId) (seq x : Byte) (s : State),
    s.nextRequest = some (h, ⟨seq, 0x07, [x]⟩) →
      ((15 < x.toNat → refuses (.withdraw h seq [x]) s h ⟨seq, 0x07, [x]⟩ .badArgument .none) ∧
        ∀ l : LaneId, x.toNat = l.val →
          ((s.lane l).holder ≠ some h →
              refuses (.withdraw h seq [x]) s h ⟨seq, 0x07, [x]⟩ .notHolder .none) ∧
            ((s.lane l).holder = some h →
              ((s.lane l).state = .handover →
                  refuses (.withdraw h seq [x]) s h ⟨seq, 0x07, [x]⟩ .handover .none) ∧
                ((s.lane l).state = .held ∨ (s.lane l).state = .retiring →
                  refuses (.withdraw h seq [x]) s h ⟨seq, 0x07, [x]⟩ .noOffer .none) ∧
                ((s.lane l).state = .offered → ∀ o ∈ (s.lane l).offer,
                  answers (.withdraw h seq [x]) s h ⟨seq, 0x07, [x]⟩ .done
                    (.laneHost l o.target) (only o.target [.offerEnded l .withdrawn])
                    (s.setLane l { s.lane l with state := .held, offer := none }))))

/-- DECLINE and ACCEPT: their common tests in order; a DECLINE ends the offer, an ACCEPT makes the
lane HANDOVER (R124, R125). -/
def Obligations.DeclineAndAccept : Prop :=
  ∀ (h : HostId) (seq x : Byte) (s : State),
    (s.nextRequest = some (h, ⟨seq, 0x08, [x]⟩) →
        (15 < x.toNat →
            refuses (.decline h seq [x]) s h ⟨seq, 0x08, [x]⟩ .badArgument .none) ∧
          ∀ l : LaneId, x.toNat = l.val →
            (¬ ((s.lane l).state ∈ [LaneState.offered, .handover] ∧
                  (s.lane l).offer.map (·.target) = some h) →
                refuses (.decline h seq [x]) s h ⟨seq, 0x08, [x]⟩ .noOffer .none) ∧
              ((s.lane l).offer.map (·.target) = some h →
                ((s.lane l).state = .handover →
                    refuses (.decline h seq [x]) s h ⟨seq, 0x08, [x]⟩ .handover .none) ∧
                  ((s.lane l).state = .offered → ∀ g ∈ (s.lane l).holder,
                    answers (.decline h seq [x]) s h ⟨seq, 0x08, [x]⟩ .done (.laneHost l g)
                      (only g [.offerEnded l .declined])
                      (s.setLane l { s.lane l with state := .held, offer := none })))) ∧
      (s.nextRequest = some (h, ⟨seq, 0x09, [x]⟩) →
        (15 < x.toNat →
            refuses (.accept h seq [x]) s h ⟨seq, 0x09, [x]⟩ .badArgument .none) ∧
          ∀ l : LaneId, x.toNat = l.val →
            (¬ ((s.lane l).state ∈ [LaneState.offered, .handover] ∧
                  (s.lane l).offer.map (·.target) = some h) →
                refuses (.accept h seq [x]) s h ⟨seq, 0x09, [x]⟩ .noOffer .none) ∧
              ((s.lane l).offer.map (·.target) = some h →
                ((s.lane l).state = .handover →
                    refuses (.accept h seq [x]) s h ⟨seq, 0x09, [x]⟩ .handover .none) ∧
                  ((s.lane l).state = .offered → ∀ g ∈ (s.lane l).holder,
                    answers (.accept h seq [x]) s h ⟨seq, 0x09, [x]⟩ .done
                      (.accepted l g (s.timebase.frame + 1)) nobody
                      (s.setLane l
                        { s.lane l with state := .handover, offer := some ⟨h, none⟩ }))))

/-- FAULT CLEAR: the tests of R142 in order, and the flag cleared. -/
def Obligations.FaultClearRequest : Prop :=
  ∀ (h : HostId) (seq x : Byte) (s : State),
    s.nextRequest = some (h, ⟨seq, 0x0A, [x]⟩) →
      ((15 < x.toNat →
          refuses (.faultClear h seq [x]) s h ⟨seq, 0x0A, [x]⟩ .badArgument .none) ∧
        ∀ l : LaneId, x.toNat = l.val →
          ((s.lane l).holder ≠ some h →
              refuses (.faultClear h seq [x]) s h ⟨seq, 0x0A, [x]⟩ .notHolder .none) ∧
            ((s.lane l).holder = some h →
              ((s.lane l).state = .retiring →
                  refuses (.faultClear h seq [x]) s h ⟨seq, 0x0A, [x]⟩ .retiring .none) ∧
                ((s.lane l).state = .handover →
                  refuses (.faultClear h seq [x]) s h ⟨seq, 0x0A, [x]⟩ .handover .none) ∧
                ((s.lane l).state = .held ∨ (s.lane l).state = .offered →
                  ((s.lane l).faultFlag = false →
                      refuses (.faultClear h seq [x]) s h ⟨seq, 0x0A, [x]⟩ .notFaulted
                        .none) ∧
                    ((s.lane l).faultFlag = true → 3 ≤ (s.lane l).faultCount →
                      refuses (.faultClear h seq [x]) s h ⟨seq, 0x0A, [x]⟩ .faultLimit
                        .none) ∧
                    ((s.lane l).faultFlag = true → (s.lane l).faultCount < 3 →
                      answers (.faultClear h seq [x]) s h ⟨seq, 0x0A, [x]⟩ .done
                        (.faultCount l (s.lane l).faultCount) nobody
                        (s.setLane l
                          { s.lane l with
                            faultFlag := false, level := false, pulseEnd := none
                            check :=
                              if (s.lane l).settings.readback then
                                some (s.lane l).settings.settle
                              else (s.lane l).check })))))

/-! ### Cues, books and slots -/

/-- A cue enters a book exactly when it passes every test of R38, and is then kept as it was given
(R37, R38; the bytes are those of 10.7). -/
def Obligations.CueEntry : Prop :=
  ∀ b0 b1 b2 b3 b4 b5 b6 b7 b8 b9 : Byte,
    ((cueOfBytes [b0, b1, b2, b3, b4, b5, b6, b7, b8, b9]).isSome = true ↔
        (b0.toNat / 64 = 3 ↔ b0.toNat % 32 = 31) ∧
          (b0.toNat % 32 ≠ 31 → b0.toNat % 32 ≤ 15) ∧
          (b0.toNat / 32 % 2 = 1 ↔ b0.toNat / 64 = 2) ∧
          (b0.toNat / 64 = 2 → b4.toNat * 256 + b5.toNat ≠ 0) ∧
          b6.toNat ≠ 0 ∧ b7.toNat < b6.toNat) ∧
      ∀ c ∈ cueOfBytes [b0, b1, b2, b3, b4, b5, b6, b7, b8, b9],
        c.offset = b1.toNat * 65536 + b2.toNat * 256 + b3.toNat ∧
          c.every = b6.toNat ∧ c.phase = b7.toNat ∧ c.tag = b8 ++ b9 ∧
          (b0.toNat / 64 = 0 → ∃ l : LaneId, l.val = b0.toNat % 32 ∧ c.action = .rise l) ∧
          (b0.toNat / 64 = 1 → ∃ l : LaneId, l.val = b0.toNat % 32 ∧ c.action = .fall l) ∧
          (b0.toNat / 64 = 2 → ∃ l : LaneId, l.val = b0.toNat % 32 ∧
            c.action = .pulse l (b4.toNat * 256 + b5.toNat)) ∧
          (b0.toNat / 64 = 3 → c.action = .note)

/-- The book gate decides by the first row of its table that applies (R45, R109), and the slot test
passes when the reserve covers the count or the common slots free cover the growth of the draw (R55,
R56). -/
def Obligations.GateAndSlotTest : Prop :=
  (∀ (r : HostRecord) (b : BookId),
      ((r.book b).state = .compiling → r.gate b = some .compiling) ∧
        ((r.book b).state = .pending → r.gate b = some .pending) ∧
        ((r.book b).state = .active → r.gate b = some .active) ∧
        ((r.book b).state = .draft → r.load.map (·.book) = some b → r.gate b = some .loading) ∧
        ((r.book b).state = .draft → r.load.map (·.book) ≠ some b → r.gate b = none) ∧
        ((r.book b).state = .ready →
          r.run.mode = .alternate ∧ r.run.active ≠ some b ∧ r.run.turn = 1 →
            r.gate b = some .late) ∧
        ((r.book b).state = .ready →
          ¬ (r.run.mode = .alternate ∧ r.run.active ≠ some b ∧ r.run.turn = 1) →
            r.gate b = none)) ∧
    ∀ (s : State) (h : HostId) (k : Nat),
      (s.slotTest h k = true ↔
        (s.host h).slots + k ≤ 128 ∨
          ((s.host h).slots + k - 128) - ((s.host h).slots - 128) ≤
            512 - (((s.host 0).slots - 128) + ((s.host 1).slots - 128) +
              ((s.host 2).slots - 128) + ((s.host 3).slots - 128)))

/-- CUE PUT: the order of tests of R47, the table of R48, and the book after the edit (R41, R43, R46,
R48). -/
def Obligations.CuePutRequest : Prop :=
  ∀ (h : HostId) (seq x i1 i0 : Byte) (bytes : List Byte) (s : State),
    s.nextRequest = some (h, ⟨seq, 0x10, x :: i1 :: i0 :: bytes⟩) →
      ((bookOfByte x = none ∨ cueOfBytes bytes = none →
          refuses (.cuePut h seq (x :: i1 :: i0 :: bytes)) s h
            ⟨seq, 0x10, x :: i1 :: i0 :: bytes⟩ .badArgument .none) ∧
        ∀ b ∈ bookOfByte x, ∀ c ∈ cueOfBytes bytes,
          (∀ o ∈ (s.host h).gate b,
              refuses (.cuePut h seq (x :: i1 :: i0 :: bytes)) s h
                ⟨seq, 0x10, x :: i1 :: i0 :: bytes⟩ o .none) ∧
            ((s.host h).gate b = none →
              ((s.book h b).cues.length < i1.toNat * 256 + i0.toNat ∨
                  (i1.toNat * 256 + i0.toNat = (s.book h b).cues.length ∧
                    512 ≤ (s.book h b).cues.length) →
                  refuses (.cuePut h seq (x :: i1 :: i0 :: bytes)) s h
                    ⟨seq, 0x10, x :: i1 :: i0 :: bytes⟩ .badArgument .none) ∧
                (i1.toNat * 256 + i0.toNat < (s.book h b).cues.length →
                  answers (.cuePut h seq (x :: i1 :: i0 :: bytes)) s h
                    ⟨seq, 0x10, x :: i1 :: i0 :: bytes⟩ .done
                    (.book .draft (s.book h b).cues.length) nobody
                    (s.setHost h
                      ((s.host h).setBook b
                        ⟨(s.book h b).cues.set (i1.toNat * 256 + i0.toNat) c, .draft, none,
                          none⟩))) ∧
                (i1.toNat * 256 + i0.toNat = (s.book h b).cues.length →
                  (s.book h b).cues.length < 512 →
                  (s.slotTest h 1 = false →
                      refuses (.cuePut h seq (x :: i1 :: i0 :: bytes)) s h
                        ⟨seq, 0x10, x :: i1 :: i0 :: bytes⟩ .noSpace .none) ∧
                    (s.slotTest h 1 = true →
                      answers (.cuePut h seq (x :: i1 :: i0 :: bytes)) s h
                        ⟨seq, 0x10, x :: i1 :: i0 :: bytes⟩ .done
                        (.book .draft ((s.book h b).cues.length + 1)) nobody
                        (s.setHost h
                          (((s.host h).setBook b
                            ⟨(s.book h b).cues ++ [c], .draft, none, none⟩).setSlots
                              ((s.host h).slots + 1)))))))

/-- CUE DROP and BOOK CLEAR: the gate, the index test, and the book after the edit (R41, R47, R49,
R50). -/
def Obligations.DropAndClear : Prop :=
  ∀ (h : HostId) (seq x i1 i0 : Byte) (s : State),
    (s.nextRequest = some (h, ⟨seq, 0x11, [x, i1, i0]⟩) →
        (bookOfByte x = none →
            refuses (.cueDrop h seq [x, i1, i0]) s h ⟨seq, 0x11, [x, i1, i0]⟩ .badArgument
              .none) ∧
          ∀ b ∈ bookOfByte x,
            (∀ o ∈ (s.host h).gate b,
                refuses (.cueDrop h seq [x, i1, i0]) s h ⟨seq, 0x11, [x, i1, i0]⟩ o .none) ∧
              ((s.host h).gate b = none →
                ((s.book h b).cues.length ≤ i1.toNat * 256 + i0.toNat →
                    refuses (.cueDrop h seq [x, i1, i0]) s h ⟨seq, 0x11, [x, i1, i0]⟩
                      .badArgument .none) ∧
                  (i1.toNat * 256 + i0.toNat < (s.book h b).cues.length →
                    answers (.cueDrop h seq [x, i1, i0]) s h ⟨seq, 0x11, [x, i1, i0]⟩ .done
                      (.book .draft ((s.book h b).cues.length - 1)) nobody
                      (s.setHost h
                        (((s.host h).setBook b
                          ⟨(s.book h b).cues.take (i1.toNat * 256 + i0.toNat) ++
                              (s.book h b).cues.drop (i1.toNat * 256 + i0.toNat + 1),
                            .draft, none, none⟩).setSlots ((s.host h).slots - 1)))))) ∧
      (s.nextRequest = some (h, ⟨seq, 0x12, [x]⟩) →
        (bookOfByte x = none →
            refuses (.bookClear h seq [x]) s h ⟨seq, 0x12, [x]⟩ .badArgument .none) ∧
          ∀ b ∈ bookOfByte x,
            (∀ o ∈ (s.host h).gate b,
                refuses (.bookClear h seq [x]) s h ⟨seq, 0x12, [x]⟩ o .none) ∧
              ((s.host h).gate b = none →
                answers (.bookClear h seq [x]) s h ⟨seq, 0x12, [x]⟩ .done (.book .draft 0) nobody
                  (s.setHost h
                    (((s.host h).setBook b ⟨[], .draft, none, none⟩).setSlots
                      ((s.host h).slots - (s.book h b).cues.length)))))

/-- BOOK COPY: the gate on the target, the slot test where the source is longer, and the copy (R41,
R51, R52). -/
def Obligations.BookCopyRequest : Prop :=
  ∀ (h : HostId) (seq x y : Byte) (s : State),
    s.nextRequest = some (h, ⟨seq, 0x13, [x, y]⟩) →
      ((bookOfByte x = none ∨ bookOfByte y = none →
          refuses (.bookCopy h seq [x, y]) s h ⟨seq, 0x13, [x, y]⟩ .badArgument .none) ∧
        ∀ a ∈ bookOfByte x, ∀ b ∈ bookOfByte y,
          (∀ o ∈ (s.host h).gate b,
              refuses (.bookCopy h seq [x, y]) s h ⟨seq, 0x13, [x, y]⟩ o .none) ∧
            ((s.host h).gate b = none →
              ((s.book h b).cues.length < (s.book h a).cues.length →
                  s.slotTest h ((s.book h a).cues.length - (s.book h b).cues.length) = false →
                    refuses (.bookCopy h seq [x, y]) s h ⟨seq, 0x13, [x, y]⟩ .noSpace .none) ∧
                ((s.book h b).cues.length < (s.book h a).cues.length →
                  s.slotTest h ((s.book h a).cues.length - (s.book h b).cues.length) = true →
                    answers (.bookCopy h seq [x, y]) s h ⟨seq, 0x13, [x, y]⟩ .done
                      (.book .draft (s.book h a).cues.length) nobody
                      (s.setHost h
                        (((s.host h).setBook b ⟨(s.book h a).cues, .draft, none, none⟩).setSlots
                          ((s.host h).slots +
                            ((s.book h a).cues.length - (s.book h b).cues.length))))) ∧
                ((s.book h a).cues.length ≤ (s.book h b).cues.length →
                  answers (.bookCopy h seq [x, y]) s h ⟨seq, 0x13, [x, y]⟩ .done
                    (.book .draft (s.book h a).cues.length) nobody
                    (s.setHost h
                      (((s.host h).setBook b ⟨(s.book h a).cues, .draft, none, none⟩).setSlots
                        ((s.host h).slots -
                          ((s.book h b).cues.length - (s.book h a).cues.length)))))))

/-! ### Loads -/

/-- LOAD OPEN: the tests of R64 in order, and the load opened (R64, R65). -/
def Obligations.LoadOpenRequest : Prop :=
  ∀ (h : HostId) (seq x n1 n0 : Byte) (s : State),
    s.nextRequest = some (h, ⟨seq, 0x18, [x, n1, n0]⟩) →
      ((bookOfByte x = none ∨ n1.toNat * 256 + n0.toNat = 0 ∨ 512 < n1.toNat * 256 + n0.toNat →
          refuses (.loadOpen h seq [x, n1, n0]) s h ⟨seq, 0x18, [x, n1, n0]⟩ .badArgument
            .none) ∧
        ∀ b ∈ bookOfByte x, 1 ≤ n1.toNat * 256 + n0.toNat → n1.toNat * 256 + n0.toNat ≤ 512 →
          (∀ o ∈ (s.host h).gate b,
              refuses (.loadOpen h seq [x, n1, n0]) s h ⟨seq, 0x18, [x, n1, n0]⟩ o .none) ∧
            ((s.host h).gate b = none →
              (512 < (s.book h b).cues.length + (n1.toNat * 256 + n0.toNat) →
                  refuses (.loadOpen h seq [x, n1, n0]) s h ⟨seq, 0x18, [x, n1, n0]⟩
                    .badArgument .none) ∧
                ((s.book h b).cues.length + (n1.toNat * 256 + n0.toNat) ≤ 512 →
                  ((s.host h).load.isSome = true →
                      refuses (.loadOpen h seq [x, n1, n0]) s h ⟨seq, 0x18, [x, n1, n0]⟩
                        .busy .none) ∧
                    ((s.host h).load = none →
                      s.slotTest h (n1.toNat * 256 + n0.toNat) = false →
                        refuses (.loadOpen h seq [x, n1, n0]) s h ⟨seq, 0x18, [x, n1, n0]⟩
                          .noSpace .none) ∧
                    ((s.host h).load = none →
                      s.slotTest h (n1.toNat * 256 + n0.toNat) = true →
                        answers (.loadOpen h seq [x, n1, n0]) s h ⟨seq, 0x18, [x, n1, n0]⟩ .done
                          (.loadOpened b (s.book h b).cues.length (n1.toNat * 256 + n0.toNat))
                          nobody
                          (s.setHost h
                            { (s.host h).setBook b ⟨(s.book h b).cues, .draft, none, none⟩ with
                              slots := (s.host h).slots + (n1.toNat * 256 + n0.toNat)
                              load :=
                                some ⟨b, n1.toNat * 256 + n0.toNat, 0,
                                  (s.book h b).cues.length, 0⟩ })))))

/-- LOAD CUES: the tests of R66 in order, the cues appended, and the completion of a load (R66 to
R68). The payload is the bytes of one to four cues. -/
def Obligations.LoadCuesRequest : Prop :=
  ∀ (h : HostId) (seq : Byte) (chunks : List (List Byte)) (s : State),
    1 ≤ chunks.length → chunks.length ≤ 4 → (∀ k ∈ chunks, k.length = 10) →
      s.nextRequest = some (h, ⟨seq, 0x19, chunks.flatten⟩) →
        (∀ k ∈ List.range chunks.length,
            (∀ x ∈ chunks.take k, (cueOfBytes x).isSome = true) →
              (∀ x ∈ chunks[k]?, cueOfBytes x = none) →
                refuses (.loadCues h seq chunks.flatten) s h ⟨seq, 0x19, chunks.flatten⟩
                  .badArgument (.failingCue k)) ∧
          ((∀ x ∈ chunks, (cueOfBytes x).isSome = true) →
            ((s.host h).load = none →
                refuses (.loadCues h seq chunks.flatten) s h ⟨seq, 0x19, chunks.flatten⟩ .noLoad
                  .none) ∧
              ∀ ld ∈ (s.host h).load,
                (ld.declared < ld.received + chunks.length → ld.received ≤ ld.declared →
                    refuses (.loadCues h seq chunks.flatten) s h ⟨seq, 0x19, chunks.flatten⟩
                      .badArgument .none) ∧
                  (ld.received + chunks.length < ld.declared →
                    answers (.loadCues h seq chunks.flatten) s h ⟨seq, 0x19, chunks.flatten⟩ .done
                      (.loadProgress ld.book (ld.received + chunks.length)
                        (ld.declared - (ld.received + chunks.length)))
                      nobody
                      (s.setHost h
                        { (s.host h).setBook ld.book
                            { s.book h ld.book with
                              cues :=
                                (s.book h ld.book).cues ++ chunks.filterMap cueOfBytes } with
                          load :=
                            some
                              { ld with received := ld.received + chunks.length, idle := 0 } })) ∧
                  (ld.received + chunks.length = ld.declared →
                    answers (.loadCues h seq chunks.flatten) s h ⟨seq, 0x19, chunks.flatten⟩
                      .complete
                      (.loadComplete ld.book ((s.book h ld.book).cues.length + chunks.length))
                      nobody
                      (s.setHost h
                        { (s.host h).setBook ld.book
                            { s.book h ld.book with
                              cues :=
                                (s.book h ld.book).cues ++ chunks.filterMap cueOfBytes } with
                          load := none })))

/-- LOAD CANCEL rolls the load back, COMPILE ABORT removes the requester's job, SWAP CANCEL withdraws
a pending SWAP; each is refused where there is nothing to end (R69, R70, R88, R101). -/
def Obligations.CancellingRequests : Prop :=
  ∀ (h : HostId) (seq : Byte) (s : State),
    (s.nextRequest = some (h, ⟨seq, 0x1A, []⟩) →
        ((s.host h).load = none →
            refuses (.loadCancel h seq []) s h ⟨seq, 0x1A, []⟩ .noLoad .none) ∧
          ∀ ld ∈ (s.host h).load,
            answers (.loadCancel h seq []) s h ⟨seq, 0x1A, []⟩ .done
              (.loadCancelled ld.book ld.received
                (min ld.lengthAtOpen (s.book h ld.book).cues.length))
              nobody
              (s.setHost h
                { (s.host h).setBook ld.book
                    { s.book h ld.book with
                      cues := (s.book h ld.book).cues.take ld.lengthAtOpen } with
                  slots := (s.host h).slots - ld.declared
                  load := none })) ∧
      (s.nextRequest = some (h, ⟨seq, 0x1D, []⟩) →
        ((∀ j ∈ s.jobs, j.host ≠ h) →
            refuses (.compileAbort h seq []) s h ⟨seq, 0x1D, []⟩ .nothingPending .none) ∧
          ∀ j ∈ s.jobs, j.host = h → (∀ k ∈ s.jobs, k.host = h → k = j) →
            answers (.compileAbort h seq []) s h ⟨seq, 0x1D, []⟩ .done (.bookOnly j.book) nobody
              { s.setHost h
                  ((s.host h).setBook j.book
                    ⟨(s.book h j.book).cues, .draft, none, none⟩) with
                jobs := s.jobs.filter fun k => k.host != h }) ∧
      (s.nextRequest = some (h, ⟨seq, 0x21, []⟩) →
        ((s.run h).action = .none ∨ (s.run h).action = .halt →
            refuses (.swapCancel h seq []) s h ⟨seq, 0x21, []⟩ .nothingPending .none) ∧
          ∀ b ∈ allBooks, (s.run h).action = .swapTo b →
            answers (.swapCancel h seq []) s h ⟨seq, 0x21, []⟩ .done (.bookOnly b) nobody
              (s.setHost h
                { (s.host h).setBook b { s.book h b with state := .ready } with
                  run := { s.run h with action := .none } }))

/-! ### The compiler -/

/-- COMPILE: the tests of R77 in order, and the job that joins the queue (R77, R78). -/
def Obligations.CompileRequest : Prop :=
  ∀ (h : HostId) (seq x : Byte) (s : State),
    s.nextRequest = some (h, ⟨seq, 0x1C, [x]⟩) →
      ((bookOfByte x = none →
          refuses (.compile h seq [x]) s h ⟨seq, 0x1C, [x]⟩ .badArgument .none) ∧
        ∀ b ∈ bookOfByte x,
          (∀ o ∈ (s.host h).gate b,
              refuses (.compile h seq [x]) s h ⟨seq, 0x1C, [x]⟩ o .none) ∧
            ((s.host h).gate b = none →
              ((∃ j ∈ s.jobs, j.host = h) →
                  refuses (.compile h seq [x]) s h ⟨seq, 0x1C, [x]⟩ .busy .none) ∧
                ((∀ j ∈ s.jobs, j.host ≠ h) →
                  answers (.compile h seq [x]) s h ⟨seq, 0x1C, [x]⟩ .accepted
                    (.compiling b (s.book h b).cues.length s.jobs.length) nobody
                    { s.setHost h
                        ((s.host h).setBook b
                          ⟨(s.book h b).cues, .compiling, none, none⟩) with
                      jobs := s.jobs ++ [⟨h, b⟩] })))

/-- A completion writes the report of the checks, makes the book READY with its run list or DRAFT
without one, removes the job, and posts COMPILE_DONE to the owner; with no job there is no
completion (R81, R86, R87). -/
def Obligations.CompileCompletion : Prop :=
  ∀ s : State, s.rstN = true →
    (s.jobs = [] → exec .compileCompletion s = .next s) ∧
      ∀ j ∈ s.jobs.head?,
        happens .compileCompletion s
          (only j.host
            [.compileDone j.book (s.compileReport j.host (s.book j.host j.book).cues)])
          { s.setHost j.host
              ((s.host j.host).setBook j.book
                ⟨(s.book j.host j.book).cues,
                  if (s.compileReport j.host (s.book j.host j.book).cues).outcome = .ready then
                    .ready
                  else .draft,
                  if (s.compileReport j.host (s.book j.host j.book).cues).outcome = .ready then
                    some (buildRunList (s.book j.host j.book).cues)
                  else none,
                  some (s.compileReport j.host (s.book j.host j.book).cues)⟩) with
            jobs := s.jobs.drop 1 }

/-- The checks of a completion: the first cue that fails ownership or fit, then the seventeenth NOTE,
then spacing: with the actions of each lane in their order, `as`, the first pair closer than the larger
of the spacing in force and the spacing pending, L0 first and neighbouring pairs before the wraps, is
reported with the cue of its later action as index and the other as second index. A book passes exactly
when on each lane all actions are far enough apart, within the frame and across it at every length
checked (R81 to R87). -/
def Obligations.CompileChecks : Prop :=
  ∀ (s : State) (h : HostId) (cues : List Cue) (as : LaneId → List ActionAt),
    (∀ l : LaneId, (as l).Perm (actionsOn cues l) ∧ (as l).Pairwise actsBefore) →
    let lengths := s.timebase.f :: (s.proposal.map (·.newF)).toList
    let owned (c : Cue) : Prop := ∀ l ∈ c.lane?,
      (s.lane l).state ∈ [LaneState.held, .offered] ∧ (s.lane l).holder = some h
    let fit (c : Cue) : Prop := c.lane? = none ∨ ∀ f ∈ lengths, c.fits f = true
    let spaced : Prop := ∀ l : LaneId,
      spacedBy (spacingOf (s.lane l).toLaneRecord) lengths (actionPositions cues l)
    let tooClose := allLanes.flatMap fun l =>
      (testedPairs lengths (as l)).filter fun x => x.2.2 < spacingOf (s.lane l).toLaneRecord
    (∀ i ∈ List.range cues.length, ∀ c ∈ cues[i]?, (∀ d ∈ cues.take i, owned d ∧ fit d) →
        (¬ owned c → s.compileReport h cues = ⟨.notHolder, some i, none, some c.tag⟩) ∧
          (owned c → ¬ fit c → s.compileReport h cues = ⟨.noFit, some i, none, some c.tag⟩)) ∧
      ((∀ d ∈ cues, owned d ∧ fit d) →
        (∀ i ∈ List.range cues.length, ∀ c ∈ cues[i]?, c.action = .note →
            (cues.take i).countP (fun d => d.action == .note) = 16 →
              s.compileReport h cues = ⟨.noteLimit, some i, none, some c.tag⟩) ∧
          (cues.countP (fun d => d.action == .note) ≤ 16 →
            (spaced → s.compileReport h cues = ⟨.ready, none, none, none⟩) ∧
              (¬ spaced →
                ∃ x ∈ tooClose.head?,
                  s.compileReport h cues =
                    ⟨.spacing, some x.1, some x.2.1, cues[x.1]?.map (·.tag)⟩)))

/-- A run list holds every cue of the book once, ordered by offset and, at equal offsets, by index
(R42, R86). -/
def Obligations.RunListOrder : Prop :=
  ∀ cues : List Cue,
    (buildRunList cues).Perm (List.range cues.length) ∧
      (buildRunList cues).Pairwise fun i j =>
        ∀ a ∈ cues[i]?, ∀ b ∈ cues[j]?, a.offset < b.offset ∨ (a.offset = b.offset ∧ i < j)

/-! ### Run control -/

/-- SWAP: the tests of R99 in order, every reply with the book and its state, and the swap accepted
(R99, R100). The reply of an accepted SWAP shows the state after it, PENDING
(notes/assumptions/10.md). -/
def Obligations.SwapRequest : Prop :=
  ∀ (h : HostId) (seq x : Byte) (s : State),
    s.nextRequest = some (h, ⟨seq, 0x20, [x]⟩) →
      ((bookOfByte x = none →
          refuses (.swap h seq [x]) s h ⟨seq, 0x20, [x]⟩ .badArgument (.swapRefused none none)) ∧
        ∀ b ∈ bookOfByte x,
          ((s.run h).mode = .alternate →
              refuses (.swap h seq [x]) s h ⟨seq, 0x20, [x]⟩ .mode
                (.swapRefused (some b) (some (s.book h b).state))) ∧
            ((s.run h).mode = .single →
              ((s.book h b).state = .active →
                  refuses (.swap h seq [x]) s h ⟨seq, 0x20, [x]⟩ .alreadyActive
                    (.swapRefused (some b) (some .active))) ∧
                ((s.book h b).state = .pending →
                  refuses (.swap h seq [x]) s h ⟨seq, 0x20, [x]⟩ .pending
                    (.swapRefused (some b) (some .pending))) ∧
                ((s.book h b).state = .compiling →
                  refuses (.swap h seq [x]) s h ⟨seq, 0x20, [x]⟩ .compiling
                    (.swapRefused (some b) (some .compiling))) ∧
                ((s.book h b).state = .draft → (s.host h).load.map (·.book) = some b →
                  refuses (.swap h seq [x]) s h ⟨seq, 0x20, [x]⟩ .loading
                    (.swapRefused (some b) (some .draft))) ∧
                ((s.book h b).state = .draft → (s.host h).load.map (·.book) ≠ some b →
                  refuses (.swap h seq [x]) s h ⟨seq, 0x20, [x]⟩ .badArgument
                    (.swapRefused (some b) (some .draft))) ∧
                ((s.book h b).state = .ready → (s.run h).action ≠ .none →
                  refuses (.swap h seq [x]) s h ⟨seq, 0x20, [x]⟩ .busy
                    (.swapRefused (some b) (some .ready))) ∧
                ((s.book h b).state = .ready → (s.run h).action = .none →
                  answers (.swap h seq [x]) s h ⟨seq, 0x20, [x]⟩ .accepted
                    (.swap b .pending (s.timebase.frame + 1)) nobody
                    (s.setHost h
                      { (s.host h).setBook b { s.book h b with state := .pending } with
                        run := { s.run h with action := .swapTo b } }))))

/-- HALT: the tests of R102 in order, and the halt accepted. -/
def Obligations.HaltRequest : Prop :=
  ∀ (h : HostId) (seq : Byte) (s : State),
    s.nextRequest = some (h, ⟨seq, 0x22, []⟩) →
      (((s.run h).mode = .alternate →
          refuses (.halt h seq []) s h ⟨seq, 0x22, []⟩ .mode .none) ∧
        ((s.run h).mode = .single → (s.run h).action ≠ .none →
          refuses (.halt h seq []) s h ⟨seq, 0x22, []⟩ .busy .none) ∧
        ((s.run h).mode = .single → (s.run h).action = .none → (s.run h).active = none →
          refuses (.halt h seq []) s h ⟨seq, 0x22, []⟩ .nothingPending .none) ∧
        ((s.run h).mode = .single → (s.run h).action = .none → ∀ b ∈ (s.run h).active,
          answers (.halt h seq []) s h ⟨seq, 0x22, []⟩ .accepted
            (.halt b (s.timebase.frame + 1)) nobody
            (s.setHost h { s.host h with run := { s.run h with action := .halt } })))

/-- MODE SET: SINGLE is taken in either mode; ALTERNATE is tested in the order of R105, and loads the
turn counter with the active book's run length (R105, R106). -/
def Obligations.ModeSetRequest : Prop :=
  ∀ (h : HostId) (seq m a b : Byte) (s : State),
    s.nextRequest = some (h, ⟨seq, 0x23, [m, a, b]⟩) →
      ((1 < m.toNat →
          refuses (.modeSet h seq [m, a, b]) s h ⟨seq, 0x23, [m, a, b]⟩ .badArgument .none) ∧
        (m.toNat = 0 →
          answers (.modeSet h seq [m, a, b]) s h ⟨seq, 0x23, [m, a, b]⟩ .done
            (.mode .single (s.run h).active 0) nobody
            (s.setHost h { s.host h with run := { s.run h with mode := .single, turn := 0 } })) ∧
        (m.toNat = 1 →
          (a.toNat = 0 ∨ b.toNat = 0 →
              refuses (.modeSet h seq [m, a, b]) s h ⟨seq, 0x23, [m, a, b]⟩ .badArgument
                .none) ∧
            (a.toNat ≠ 0 → b.toNat ≠ 0 →
              ((s.run h).action ≠ .none →
                  refuses (.modeSet h seq [m, a, b]) s h ⟨seq, 0x23, [m, a, b]⟩ .busy .none) ∧
                ((s.run h).action = .none → (s.run h).active = none →
                  refuses (.modeSet h seq [m, a, b]) s h ⟨seq, 0x23, [m, a, b]⟩ .nothingPending
                    .none) ∧
                ((s.run h).action = .none → ∀ x ∈ (s.run h).active,
                  answers (.modeSet h seq [m, a, b]) s h ⟨seq, 0x23, [m, a, b]⟩ .done
                    (.mode .alternate (some x) (if x = .A then a.toNat else b.toNat)) nobody
                    (s.setHost h
                      { s.host h with
                        run :=
                          { s.run h with
                            mode := .alternate, runA := a.toNat, runB := b.toNat
                            turn := if x = .A then a.toNat else b.toNat } })))))

/-! ### Frame-length agreement -/

/-- PROPOSE: the tests of R148 in order; the voter set of R149; AGREED at once with no voter, the new
length handed to the timebase and misfitting books demoted, and OPEN otherwise (R148, R149, R154). -/
def Obligations.ProposeRequest : Prop :=
  ∀ (h : HostId) (seq f3 f2 f1 f0 w : Byte) (s : State),
    s.nextRequest = some (h, ⟨seq, 0x28, [f3, f2, f1, f0, w]⟩) →
      let q : Request := ⟨seq, 0x28, [f3, f2, f1, f0, w]⟩
      let c : Instr := .propose h seq [f3, f2, f1, f0, w]
      let f := f3.toNat * 16777216 + f2.toNat * 65536 + f1.toNat * 256 + f0.toNat
      let voters := HostSet.ofTest fun g =>
        g != h && !(s.port g).held &&
          allLanes.any fun l =>
            (s.lane l).holder == some g && (s.lane l).state != .free &&
              (s.lane l).state != .retiring
      let misfit : Prop := ∃ b ∈ allBooks,
        (s.book h b).state ∈ [BookState.ready, .pending, .active] ∧
          ∃ x ∈ (s.book h b).cues, x.fits f = false
      (f < 16 ∨ 16777216 < f ∨ w.toNat = 0 ∨ 64 < w.toNat → refuses c s h q .badArgument .none) ∧
        (16 ≤ f → f ≤ 16777216 → 1 ≤ w.toNat → w.toNat ≤ 64 →
          (s.proposal.isSome = true → refuses c s h q .busy .none) ∧
            (s.proposal = none → f = s.timebase.f → refuses c s h q .badArgument .none) ∧
            (s.proposal = none → f ≠ s.timebase.f → misfit →
              refuses c s h q .doesNotFit .none) ∧
            (s.proposal = none → f ≠ s.timebase.f → ¬ misfit →
              ((∀ g : HostId, HostSet.has voters g = false) →
                  answers c s h q .agreed (.proposal f w.toNat voters)
                    (fun g => demotionsTold f (s.host g))
                    (afterAgreement s ⟨h, f, w.toNat, voters, voters, .agreed⟩)) ∧
                ((∃ g : HostId, HostSet.has voters g = true) →
                  answers c s h q .accepted (.proposal f w.toNat voters)
                    (fun g => if HostSet.has voters g then [.proposalOpen h f w.toNat] else [])
                    { s with
                      proposal :=
                        some ⟨h, f, w.toNat, voters, HostSet.ofTest fun _ => false,
                          .opened⟩ })))

/-- VOTE: the tests of R150 in order; NO ends the proposal REJECTED; YES joins the yes set, and the
last YES makes the record AGREED (R150, R154, R157). -/
def Obligations.VoteRequest : Prop :=
  ∀ (h : HostId) (seq v : Byte) (s : State),
    s.nextRequest = some (h, ⟨seq, 0x29, [v]⟩) →
      let q : Request := ⟨seq, 0x29, [v]⟩
      let c : Instr := .vote h seq [v]
      (1 < v.toNat → refuses c s h q .badArgument .none) ∧
        (v.toNat ≤ 1 →
          (s.proposal = none → refuses c s h q .noProposal .none) ∧
            ∀ p ∈ s.proposal,
              (HostSet.has p.voters h = false ∨ HostSet.has p.yes h = true →
                  refuses c s h q .notVoter .none) ∧
                (HostSet.has p.voters h = true → HostSet.has p.yes h = false →
                  p.state = .opened →
                  (∀ g : HostId, HostSet.has p.yes g = true → HostSet.has p.voters g = true) →
                  (v.toNat = 0 →
                      answers c s h q .done (.voteEnded .rejected)
                        (fun g =>
                          if g = p.proposer ∨ HostSet.has p.voters g = true then
                            [.proposalEnded .rejected]
                          else [])
                        { s with proposal := none }) ∧
                    (v.toNat = 1 →
                      ((∃ b ∈ allBooks,
                            (s.book h b).state ∈ [BookState.ready, .pending, .active] ∧
                              ∃ x ∈ (s.book h b).cues, x.fits p.newF = false) →
                          refuses c s h q .doesNotFit .none) ∧
                        ((∀ b ∈ allBooks,
                            (s.book h b).state ∈ [BookState.ready, .pending, .active] →
                              ∀ x ∈ (s.book h b).cues, x.fits p.newF = true) →
                          ((∀ g : HostId, HostSet.has p.voters g = true →
                                HostSet.has p.yes g = true ∨ g = h) →
                              answers c s h q .agreed .none
                                (fun g => demotionsTold p.newF (s.host g))
                                (afterAgreement s { p with yes := p.voters })) ∧
                            ((∃ g : HostId, HostSet.has p.voters g = true ∧
                                HostSet.has p.yes g = false ∧ g ≠ h) →
                              answers c s h q .done
                                (.votersLeft
                                  (allHosts.filter fun g =>
                                    HostSet.has p.voters g && !HostSet.has p.yes g &&
                                      g != h).length)
                                nobody
                                { s with
                                  proposal :=
                                    some
                                      { p with
                                        yes := HostSet.ofTest fun g =>
                                          HostSet.has p.yes g || g == h } })))))

/-- PROPOSAL WITHDRAW: the tests of R151 in order, and the ending told to the proposer and to each
host still in the voter set (R151, R157). -/
def Obligations.ProposalWithdrawRequest : Prop :=
  ∀ (h : HostId) (seq : Byte) (s : State),
    s.nextRequest = some (h, ⟨seq, 0x2A, []⟩) →
      (s.proposal = none →
          refuses (.proposalWithdraw h seq []) s h ⟨seq, 0x2A, []⟩ .noProposal .none) ∧
        ∀ p ∈ s.proposal,
          (p.proposer ≠ h →
              refuses (.proposalWithdraw h seq []) s h ⟨seq, 0x2A, []⟩ .noProposal .none) ∧
            (p.proposer = h → p.state = .agreed →
              refuses (.proposalWithdraw h seq []) s h ⟨seq, 0x2A, []⟩ .agreed .none) ∧
            (p.proposer = h → p.state = .opened →
              answers (.proposalWithdraw h seq []) s h ⟨seq, 0x2A, []⟩ .done .none
                (fun g =>
                  if g = p.proposer ∨ HostSet.has p.voters g = true then
                    [.proposalEnded .withdrawn]
                  else [])
                { s with proposal := none })

/-! ### Arrivals -/

/-- An arrival: the position advances and FMARK is low; books, jobs, run records and the proposal
stay; a lane keeps its holder and settings; and where no readback check falls due, the notices posted
are the CUE_REACHED of each host's due NOTE cues, in run-list order (R1, R7, R115). The RBK levels are
an operand by the model's choice (notes/assumptions/5.md). -/
def Obligations.ArrivalTick : Prop :=
  ∀ (i : ArrivalIn) (s : State), arrivalNext s →
    ∃ t : State, exec (.arrival i) s = .next t ∧
      t.rstN = true ∧ t.rbk = i.rbk ∧ t.lastServed = s.lastServed ∧ t.pending = s.pending ∧
      t.timebase =
        { s.timebase with position := s.timebase.position + 1, fmark := false } ∧
      t.hosts = s.hosts ∧ t.jobs = s.jobs ∧ t.proposal = s.proposal ∧
      (∀ g : HostId, samePortButNotices (s.port g) (t.port g)) ∧
      (∀ l : LaneId, sameHolding (s.lane l).toLaneRecord (t.lane l).toLaneRecord ∧
        ((∀ n ∈ (s.lane l).check, 2 ≤ n) → (t.lane l).state = (s.lane l).state)) ∧
      ((∀ l : LaneId, ∀ n ∈ (s.lane l).check, 2 ≤ n) →
        ∀ g : HostId,
          plainPort (t.port g) =
            plainPort (tellAll s.timebase.frame (s.port g) (notesTold (atNext s) g)))

/-- The lane drivers at an arrival at which no readback check of the lane falls due: a pulse end ends
the pulse, a cue that starts sets level and pulse end, the last of several in run-list order; nothing
else of the lane changes but its pending check (R16 to R20, R114). That the pending check is set only
where the level after the whole arrival differs from the level before it is the model's reading of R19
and R137 (notes/assumptions/18.md). -/
def Obligations.ArrivalLanes : Prop :=
  ∀ (i : ArrivalIn) (l : LaneId) (s : State), arrivalNext s → (∀ n ∈ (s.lane l).check, 2 ≤ n) →
    let x := s.lane l
    let p := s.timebase.position + 1
    let becomes (level : Bool) (pulseEnd : Option Nat) : Prop :=
      ∃ t : State, exec (.arrival i) s = .next t ∧
        t.lane l =
          { x with level := level, pulseEnd := pulseEnd, check := checkAfter x level }
    ((atNext s).starting l = [] → x.pulseEnd = some p → becomes false none) ∧
      ((atNext s).starting l = [] → x.pulseEnd ≠ some p → becomes x.level x.pulseEnd) ∧
      ∀ c ∈ ((atNext s).starting l).getLast?,
        ((∃ k : LaneId, c.action = .rise k) → becomes true none) ∧
          ((∃ k : LaneId, c.action = .fall k) → becomes false none) ∧
          ∀ w ∈ pulseWidth c, becomes true (some (p + w))

/-- The due cues of a host are those of its active book's run list whose offset is the position and
whose every and phase select the frame, in run-list order; a due cue starts on a lane exactly when
the lane's holder is its owner, the lane is HELD, OFFERED or HANDOVER with its fault flag clear, and
the cue fits the F in force (R112, R113, R116). -/
def Obligations.CuesDueAndStarting : Prop :=
  ∀ (s : State) (h : HostId) (l : LaneId) (c : Cue),
    ((s.run h).active = none → s.dueCues h = []) ∧
      (∀ b ∈ (s.run h).active, ∀ order ∈ (s.book h b).runList,
        s.dueCues h =
          (order.filterMap fun i => (s.book h b).cues[i]?).filter fun d =>
            d.offset == s.timebase.position && s.timebase.frame.toNat % d.every == d.phase) ∧
      (c ∈ s.starting l ↔
        (s.lane l).state ∈ [LaneState.held, .offered, .handover] ∧ (s.lane l).faultFlag = false ∧
          c.lane? = some l ∧ c.offset < s.timebase.f ∧
          (∀ w ∈ pulseWidth c, c.offset + w ≤ s.timebase.f) ∧
          ∃ g ∈ (s.lane l).holder, c ∈ s.dueCues g)

/-- PULSE END: the lane is inactive with no pulse end after the tick, where no cue starts on it at
that tick, whether the pulse ends below F or at it (R4, R18). -/
def Obligations.PulseEnds : Prop :=
  ∀ (l : LaneId) (b : BoundaryIn) (s : State),
    (s.lane l).pulseEnd = some (s.timebase.position + 1) →
      (arrivalNext s → (atNext s).starting l = [] →
          ∃ t : State, exec (.pulseEnd l b) s = .next t ∧
            (t.lane l).level = false ∧ (t.lane l).pulseEnd = none ∧
            sameHolding (s.lane l).toLaneRecord (t.lane l).toLaneRecord ∧
            t.timebase = (atNext s).timebase ∧ t.hosts = s.hosts) ∧
        (boundaryNext s → noneAtZero s l →
          ∃ t : State, exec (.pulseEnd l b) s = .next t ∧
            (t.lane l).level = false ∧ (t.lane l).pulseEnd = none ∧
            t.timebase.position = 0 ∧ t.timebase.frame = s.timebase.frame + 1)

/-- READBACK CHECK: a watched lane's RBK is compared with its pin, which shows the level through the
polarity in force. A check that falls due at an arrival is made before or after the change of level of
that arrival, as the operand orders them: a match leaves what the drivers set, with the check that a
change sets; a mismatch records the fault. At the boundary tick, for a HELD lane with no settings to
apply, a pending check that reaches 0 is made with the arrival at position 0 of the new frame, and a
watched lane with no pending check is checked by the monitor's reaction to the boundary, HELD or
OFFERED. A match changes nothing; a fault makes an OFFERED lane HELD; the hosts that nothing else at
that tick concerns are told LANE_FAULT, then of an OFFERED lane OFFER_ENDED {FAULT}, and nothing else
(R10, R15, R131, R137 to R140, R144, R175). The RBK levels are an operand by the model's choice
(notes/assumptions/5.md), and the one change of level of an arrival is its reading of R19
(notes/assumptions/18.md). -/
def Obligations.ReadbackChecks : Prop :=
  ∀ (l : LaneId) (b : BoundaryIn) (s : State), laneOwnershipOk (s.lane l).toLaneRecord →
    let x := s.lane l
    let p := s.timebase.position + 1
    let driven := drivenWatched x (drivenTo (atNext s) l)
    let checked := if changeFirst b.start.order l = true then driven else x
    let bit := b.start.rbk.getLsbD l.val
    let bit0 := b.rbk.getLsbD l.val
    let quiet (k : HostId) : Prop :=
      s.proposal = none ∧ (s.host k).load = none ∧ notRunning s k ∧ noLaneBut s k l
    pinShows x.toLaneRecord ∧
      (x.watched = true →
        (x.check = some 1 → arrivalNext s →
            ∃ t : State, exec (.readbackCheck l b) s = .next t ∧
              t.timebase = (atNext s).timebase ∧ t.hosts = s.hosts ∧
              (t.lane l =
                if bit = checked.pin then driven
                else faulted checked s.timebase.frame p bit) ∧
              ((∀ j : LaneId, j ≠ l → ∀ n ∈ (s.lane j).check, 2 ≤ n) →
                ∀ k : HostId, (∀ c ∈ (atNext s).dueCues k, c.action ≠ .note) →
                  plainPort (t.port k) =
                    plainPort
                      (tellAll s.timebase.frame (s.port k)
                        (if bit = checked.pin then [] else faultTold l x.toLaneRecord k)))) ∧
          (x.check = some 1 → boundaryNext s → noneAtZero s l → x.state = .held →
            x.pending = none → x.pulseEnd = none →
            ∃ t : State, exec (.readbackCheck l b) s = .next t ∧
              (t.lane l =
                if bit = x.pin then { x with check := none }
                else faulted x (s.timebase.frame + 1) 0 bit) ∧
              ∀ k : HostId, quiet k →
                toldAtBoundary s t k (if bit = x.pin then [] else faultTold l x.toLaneRecord k)) ∧
          (x.check = none → boundaryNext s → noneAtZero s l → x.pending = none →
            x.pulseEnd = none →
            ∃ t : State, exec (.frameBoundary b) s = .next t ∧
              (x.state = .held →
                t.lane l =
                  if bit0 = x.pin then x else faulted x (s.timebase.frame + 1) 0 bit0) ∧
              (x.state = .offered → ∀ o ∈ x.offer, ∀ n ∈ o.remaining, 2 ≤ n →
                t.lane l =
                  if bit0 = x.pin then { x with offer := some ⟨o.target, some (n - 1)⟩ }
                  else faulted x (s.timebase.frame + 1) 0 bit0) ∧
              ((x.state = .held ∨ (x.state = .offered ∧ x.offer.bind (·.remaining) ≠ some 1)) →
                ∀ k : HostId, quiet k →
                  toldAtBoundary s t k (if bit0 = x.pin then [] else faultTold l x.toLaneRecord k))))

/-! ### Boundaries -/

/-- A frame boundary: the frame counter rises by one, the position is 0, FMARK is high, a next length
is taken; requests, replies, admission statuses, jobs and the port served last stay; a lane keeps its
holder unless it is freed or handed over; books keep their cues and slots where no load is open, and
an open load counts the boundary. The arrival at position 0 follows it: the last cue that then starts on
a lane, from the book ACTIVE after the boundary, sets level and pulse end, and a host whose book runs on,
and that nothing else at that boundary concerns, is told CUE_REACHED for its due NOTE cues and nothing
else (R3, R4, R6, R7, R8, R71, R112 to R115). The RBK levels are an operand by the model's
choice (notes/assumptions/5.md). -/
def Obligations.BoundaryTick : Prop :=
  ∀ (b : BoundaryIn) (s : State), boundaryNext s →
    ∃ t : State, exec (.frameBoundary b) s = .next t ∧
      t.rstN = true ∧ t.rbk = b.start.rbk ∧ t.lastServed = s.lastServed ∧
      t.pending = s.pending ∧ t.jobs = s.jobs ∧
      t.timebase.f = nextF s ∧ t.timebase.position = 0 ∧
      t.timebase.frame = s.timebase.frame + 1 ∧ t.timebase.fmark = true ∧
      ((∀ p ∈ s.proposal, p.state = .agreed) → t.timebase.nextLength = none) ∧
      (∀ g : HostId, samePortButNotices (s.port g) (t.port g)) ∧
      (∀ h : HostId,
        (t.run h).mode = (s.run h).mode ∧ (t.run h).runA = (s.run h).runA ∧
          (t.run h).runB = (s.run h).runB ∧
          ((s.host h).load = none →
            (t.host h).load = none ∧ (t.host h).slots = (s.host h).slots ∧
              ∀ x ∈ allBooks, (t.book h x).cues = (s.book h x).cues) ∧
          ∀ ld ∈ (s.host h).load, ld.idle + 1 < 8 →
            (t.host h).load = some { ld with idle := ld.idle + 1 } ∧
              (t.host h).slots = (s.host h).slots ∧
              ∀ x ∈ allBooks, (t.book h x).cues = (s.book h x).cues) ∧
      (∀ l : LaneId, (s.lane l).state ≠ .retiring → (s.lane l).state ≠ .handover →
        (t.lane l).holder = (s.lane l).holder) ∧
      (∀ l : LaneId, ∀ c ∈ (t.starting l).getLast?,
        ((∃ k : LaneId, c.action = .rise k) →
            (t.lane l).level = true ∧ (t.lane l).pulseEnd = none) ∧
          ((∃ k : LaneId, c.action = .fall k) →
            (t.lane l).level = false ∧ (t.lane l).pulseEnd = none) ∧
          ∀ w ∈ pulseWidth c, (t.lane l).level = true ∧ (t.lane l).pulseEnd = some w) ∧
      ∀ g : HostId, s.proposal = none → (s.host g).load = none → quietLanes s g →
        ((s.run g).mode = .single ∧ (s.run g).action = .none) ∨
            ((s.run g).mode = .alternate ∧ 2 ≤ (s.run g).turn) →
          toldAtBoundary s t g (notesTold t g)

/-- The lane table at a boundary: FREE stays FREE, RETIRING becomes FREE with its fault fields cleared
and its settings kept, HELD and OFFERED lanes take their pending settings, an offer that is not
checked counts down, and a HANDOVER lane is HELD by its target with no pending settings and no fault.
Where no cue is at offset 0 of the lane: a lane whose pending settings are applied, and a lane handed
over, is inactive without a pulse end and has the pending check that the settings then in force give it;
a HELD or OFFERED lane with nothing to apply keeps its level and counts its pending check down, and a
pulse on it that ends at F is over. A lane that is FREE after the boundary is inactive with no pending
check. Hosts that nothing else at that boundary concerns are told LANE_FREED or HANDOVER_DONE and nothing
else (R18, R26, R29, R30, R33, R117, R126, R130, R137). A new check stands in place of one that reached
0 at that tick (notes/assumptions/9.md). -/
def Obligations.BoundaryLanes : Prop :=
  ∀ (l : LaneId) (b : BoundaryIn) (s : State), boundaryNext s →
    ∃ t : State, exec (.frameBoundary b) s = .next t ∧
      ((s.lane l).state = .free → (s.lane l).holder = none →
        (t.lane l).state = .free ∧
          sameHolding (s.lane l).toLaneRecord (t.lane l).toLaneRecord) ∧
      ((s.lane l).state = .retiring →
        (t.lane l).state = .free ∧ (t.lane l).holder = none ∧ (t.lane l).pending = none ∧
          (t.lane l).faultFlag = false ∧ (t.lane l).faultCount = 0 ∧
          (t.lane l).faultRecord = none ∧ (t.lane l).settings = (s.lane l).settings ∧
          (t.lane l).check = none) ∧
      ((s.lane l).state = .free ∨ (s.lane l).state = .retiring →
        laneLevelOk s.timebase.position s.timebase.f (s.lane l).toLaneRecord →
          (t.lane l).level = false ∧ (t.lane l).pulseEnd = none) ∧
      ((s.lane l).state = .held →
        (t.lane l).state = .held ∧ (t.lane l).holder = (s.lane l).holder ∧
          (t.lane l).pending = none ∧
          (t.lane l).settings = (s.lane l).pending.getD (s.lane l).settings) ∧
      ((s.lane l).state = .offered → ∀ o ∈ (s.lane l).offer,
        (t.lane l).pending = none ∧
          (t.lane l).settings = (s.lane l).pending.getD (s.lane l).settings ∧
          ∀ n ∈ o.remaining, 2 ≤ n → (s.lane l).pending = none → (s.lane l).watched = false →
            (t.lane l).state = .offered ∧ (t.lane l).offer = some ⟨o.target, some (n - 1)⟩) ∧
      ((s.lane l).state = .handover → ∀ o ∈ (s.lane l).offer, ∀ g ∈ (s.lane l).holder,
        1 ≤ (s.lane l).settings.settle →
          (t.lane l).state = .held ∧ (t.lane l).holder = some o.target ∧
            (t.lane l).offer = none ∧ (t.lane l).pending = none ∧
            (t.lane l).settings = (s.lane l).settings ∧ (t.lane l).faultFlag = false ∧
            (t.lane l).faultCount = 0 ∧ (t.lane l).faultRecord = none ∧
            (noneAtZero s l →
              (t.lane l).level = false ∧ (t.lane l).pulseEnd = none ∧
                (t.lane l).check =
                  if (s.lane l).settings.readback = true then some (s.lane l).settings.settle
                  else none)) ∧
      (laneOwnershipOk (s.lane l).toLaneRecord → noneAtZero s l →
        (s.lane l).state = .held ∨ (s.lane l).state = .offered →
          (∀ p ∈ (s.lane l).pending, 1 ≤ p.settle →
            (t.lane l).level = false ∧ (t.lane l).pulseEnd = none ∧
              ((t.lane l).check =
                if p.readback = true ∧ (t.lane l).faultFlag = false then some p.settle
                else none) ∧
              ((s.lane l).watched = false ∨ (s.lane l).check ≠ none ∨
                  ((s.lane l).pulseEnd = none ∧ b.rbk.getLsbD l.val = (s.lane l).pin) →
                (t.lane l).faultFlag = (s.lane l).faultFlag)) ∧
            ((s.lane l).pending = none → (s.lane l).pulseEnd = some s.timebase.f →
              (s.lane l).level = true → 1 ≤ (s.lane l).settings.settle →
                (t.lane l).level = false ∧ (t.lane l).pulseEnd = none ∧
                  ((s.lane l).watched = true →
                    (t.lane l).check = some (s.lane l).settings.settle)) ∧
            ((s.lane l).pending = none → (s.lane l).pulseEnd = none →
              (s.lane l).watched = false ∨ (s.lane l).check ≠ none →
                (∀ n ∈ (s.lane l).check, 2 ≤ n) →
                  ((s.lane l).state = .held →
                      t.lane l = { s.lane l with check := (s.lane l).check.map (· - 1) }) ∧
                    ((s.lane l).state = .offered → ∀ o ∈ (s.lane l).offer,
                      ∀ n ∈ o.remaining, 2 ≤ n →
                        t.lane l =
                          { s.lane l with
                            check := (s.lane l).check.map (· - 1)
                            offer := some ⟨o.target, some (n - 1)⟩ }))) ∧
      ∀ k : HostId, s.proposal = none → (s.host k).load = none → notRunning s k → noLaneBut s k l →
        (s.lane l).watched = false →
          ((s.lane l).state = .retiring → (s.lane l).holder = some k →
              toldAtBoundary s t k [.laneFreed l]) ∧
            ((s.lane l).state = .handover → ∀ o ∈ (s.lane l).offer, ∀ g ∈ (s.lane l).holder,
              g ≠ o.target → (k = g ∨ k = o.target) → 1 ≤ (s.lane l).settings.settle →
                toldAtBoundary s t k [.handoverDone l g o.target])

/-- Run control at a boundary, with no OPEN proposal: a pending SWAP or HALT is carried out, and in
ALTERNATE mode the turn counter goes down by one; a book that leaves ACTIVE ends READY if it fits the F
that begins, and DRAFT without run list if not; the book that enters ACTIVE keeps cues, run list and
report. A host that nothing else at that boundary concerns is told BOOK_ACTIVE or HALTED, then
CUE_REACHED for the NOTE cues due at position 0, and nothing else (R98, R100, R103, R107, R115, R155). -/
def Obligations.BoundaryRuns : Prop :=
  ∀ (h : HostId) (b : BoundaryIn) (s : State), boundaryNext s →
    (∀ p ∈ s.proposal, p.state = .agreed) →
      ∃ t : State, exec (.frameBoundary b) s = .next t ∧
        ((s.run h).mode = .single → ∀ x ∈ allBooks, (s.run h).action = .swapTo x →
          (s.run h).active ≠ some x → (s.host h).load.map (·.book) ≠ some x →
            t.run h = { s.run h with active := some x, action := .none } ∧
              t.book h x = { s.book h x with state := .active } ∧
              ∀ a ∈ (s.run h).active, (s.host h).load.map (·.book) ≠ some a →
                t.book h a =
                  if (s.book h a).fits (nextF s) then { s.book h a with state := .ready }
                  else { s.book h a with state := .draft, runList := none }) ∧
        ((s.run h).mode = .single → (s.run h).action = .halt → ∀ a ∈ (s.run h).active,
          (s.host h).load.map (·.book) ≠ some a →
            t.run h = { s.run h with active := none, action := .none } ∧
              t.book h a =
                if (s.book h a).fits (nextF s) then { s.book h a with state := .ready }
                else { s.book h a with state := .draft, runList := none }) ∧
        ((s.run h).mode = .single → (s.run h).action = .none →
          t.run h = s.run h ∧
            ∀ x ∈ allBooks, (t.book h x).state = (s.book h x).state) ∧
        ((s.run h).mode = .alternate → 2 ≤ (s.run h).turn → (s.run h).active ≠ none →
          t.run h = { s.run h with turn := (s.run h).turn - 1 } ∧
            ∀ x ∈ allBooks, (t.book h x).state = (s.book h x).state) ∧
        (s.proposal = none → (s.host h).load = none → quietLanes s h → (s.run h).mode = .single →
          (∀ a ∈ (s.run h).active, (s.book h a).fits (nextF s) = true) →
            (∀ x ∈ allBooks, (s.run h).action = .swapTo x → (s.run h).active ≠ some x →
                toldAtBoundary s t h (.bookActive x :: notesTold t h)) ∧
              ((s.run h).action = .halt → ∀ a ∈ (s.run h).active,
                toldAtBoundary s t h [.halted a]))

/-- At a boundary with an AGREED record the new length becomes F, the record is cleared, and a host
with no lane, no load and nothing running is told FRAME_LENGTH with the first frame of that length and
nothing else (R8, R156). -/
def Obligations.AgreedLengthTaken : Prop :=
  ∀ (b : BoundaryIn) (s : State), boundaryNext s →
    ∀ p ∈ s.proposal, p.state = .agreed → s.timebase.nextLength = some p.newF →
      ∃ t : State, exec (.frameBoundary b) s = .next t ∧
        t.timebase = ⟨p.newF, 0, s.timebase.frame + 1, none, true⟩ ∧ t.proposal = none ∧
        ∀ g : HostId, (s.host g).load = none → notRunning s g → noLaneOf s g →
          toldAtBoundary s t g [.frameLength p.newF (s.timebase.frame + 1)]

/-- OFFER EXPIRY: at the boundary that uses up the count the offer is gone, and the lane is HELD by the
giver with its pending settings applied; giver and target, where nothing else at that boundary concerns
them, are told OFFER_ENDED {EXPIRED} and nothing else (R29, R126). -/
def Obligations.OfferExpires : Prop :=
  ∀ (l : LaneId) (b : BoundaryIn) (s : State), boundaryNext s → (s.lane l).state = .offered →
    ∀ o ∈ (s.lane l).offer, o.remaining = some 1 →
      ∃ t : State, exec (.offerExpiry l b) s = .next t ∧ (t.lane l).state = .held ∧
        (t.lane l).offer = none ∧ (t.lane l).holder = (s.lane l).holder ∧
        (t.lane l).pending = none ∧
        (t.lane l).settings = (s.lane l).pending.getD (s.lane l).settings ∧
        t.timebase.frame = s.timebase.frame + 1 ∧ t.timebase.position = 0 ∧ t.jobs = s.jobs ∧
        ∀ g : HostId, g = o.target ∨ (s.lane l).holder = some g → (s.lane l).holder ≠ some o.target →
          s.proposal = none → (s.host g).load = none → notRunning s g → noLaneBut s g l →
            (s.lane l).watched = false → (s.lane l).pending = none →
              toldAtBoundary s t g [.offerEnded l .expired]

/-- LOAD IDLE TIMEOUT: at the eighth idle boundary the load is rolled back, and a host that nothing
else at that boundary concerns is told LOAD_TIMEOUT with the received count and nothing else (R69,
R71). -/
def Obligations.LoadTimesOut : Prop :=
  ∀ (h : HostId) (b : BoundaryIn) (s : State), boundaryNext s →
    ∀ ld ∈ (s.host h).load, ld.idle = 7 →
      ∃ t : State, exec (.loadIdleTimeout h b) s = .next t ∧ (t.host h).load = none ∧
        (t.host h).slots = (s.host h).slots - ld.declared ∧
        (t.book h ld.book).cues = (s.book h ld.book).cues.take ld.lengthAtOpen ∧
        (t.book h ld.book.other).cues = (s.book h ld.book.other).cues ∧
        t.timebase.frame = s.timebase.frame + 1 ∧ t.timebase.position = 0 ∧ t.jobs = s.jobs ∧
        (s.proposal = none → notRunning s h → noLaneOf s h →
          toldAtBoundary s t h [.loadTimeout ld.book ld.received])

/-- ALTERNATION TURN, with no OPEN proposal: a turn whose other book is READY exchanges the books and
loads the run length of the book now ACTIVE; otherwise the turn is skipped and the counter is loaded
with the active book's own run length. A host that nothing else at that boundary concerns is told
BOOK_ACTIVE or TURN_SKIPPED, then CUE_REACHED for the NOTE cues due at position 0, and nothing else (R107,
R108, R115, R155). -/
def Obligations.AlternationTurns : Prop :=
  ∀ (h : HostId) (b : BoundaryIn) (s : State), boundaryNext s →
    (∀ p ∈ s.proposal, p.state = .agreed) → (s.run h).mode = .alternate → (s.run h).turn = 1 →
      ∀ a ∈ (s.run h).active,
        ∃ t : State, exec (.alternationTurn h b) s = .next t ∧
          ((s.book h a.other).state = .ready → (s.host h).load = none →
            t.run h =
                { s.run h with
                  active := some a.other
                  turn := if a = .A then (s.run h).runB else (s.run h).runA } ∧
              t.book h a.other = { s.book h a.other with state := .active } ∧
              t.book h a =
                if (s.book h a).fits (nextF s) then { s.book h a with state := .ready }
                else { s.book h a with state := .draft, runList := none }) ∧
          ((s.book h a.other).state ≠ .ready →
            t.run h =
                { s.run h with
                  turn := if a = .A then (s.run h).runA else (s.run h).runB } ∧
              (t.book h a).state = (s.book h a).state ∧
              (t.book h a.other).state = (s.book h a.other).state) ∧
          (s.proposal = none → (s.host h).load = none → quietLanes s h →
            ((s.book h a.other).state = .ready → (s.book h a).fits (nextF s) = true →
                toldAtBoundary s t h (.bookActive a.other :: notesTold t h)) ∧
              ((s.book h a.other).state ≠ .ready →
                toldAtBoundary s t h
                  (.turnSkipped a.other (s.book h a.other).state :: notesTold t h)))

/-- The agreement unit's reaction to a boundary with an OPEN record: the voters that hold no lane once
the lane table has reacted leave both sets. With every remaining voter's YES the record is AGREED, its
length handed to the timebase and not taken at this boundary, and the READY and PENDING books that do
not fit it are demoted. Otherwise the window goes down by one and the record stays OPEN, or, at 0, the
record ends and its proposer and the remaining voters are told PROPOSAL_ENDED {EXPIRED}. A host that
only the agreement unit concerns at that boundary is told this and nothing else (R3, R147, R152, R154,
R157, and R8 for the length that waits for the next boundary). -/
def Obligations.ProposalExpires : Prop :=
  ∀ (b : BoundaryIn) (s : State), boundaryNext s → ownershipKept s →
    ∀ p ∈ s.proposal, p.state = .opened →
      let q := withVotersLeft s p
      let frame := s.timebase.frame + 1
      (q.yes = q.voters →
          ∃ t : State, exec (.frameBoundary b) s = .next t ∧
            t.proposal = some { q with state := .agreed } ∧
            t.timebase = ⟨nextF s, 0, frame, some p.newF, true⟩ ∧ t.jobs = s.jobs ∧
            (∀ k : HostId, undisturbed s k →
              t.host k = demotedBy p.newF (s.host k) ∧
                toldAtBoundary s t k (demotionsTold p.newF (s.host k))) ∧
            ∀ k : HostId, ∀ x ∈ allBooks, (s.host k).load.map (·.book) ≠ some x →
              (s.book k x).state ∈ [BookState.ready, .pending] →
                (∀ c ∈ (s.book k x).cues, c.fits p.newF = true) ∨
                  (t.book k x).state ∈ [BookState.draft, .active]) ∧
        (q.yes ≠ q.voters → 2 ≤ p.window →
          ∃ t : State, exec (.frameBoundary b) s = .next t ∧
            t.proposal = some { q with window := p.window - 1 } ∧
            t.timebase = ⟨nextF s, 0, frame, none, true⟩ ∧ t.jobs = s.jobs ∧
            ∀ k : HostId, undisturbed s k →
              t.host k = s.host k ∧ toldAtBoundary s t k []) ∧
        (q.yes ≠ q.voters → p.window = 1 →
          ∃ t : State, exec (.proposalExpiry b) s = .next t ∧
            t.proposal = none ∧ t.timebase = ⟨nextF s, 0, frame, none, true⟩ ∧ t.jobs = s.jobs ∧
            ∀ k : HostId, undisturbed s k →
              t.host k = s.host k ∧
                toldAtBoundary s t k
                  (if k = p.proposer ∨ HostSet.has q.voters k = true then
                    [.proposalEnded .expired]
                  else []))

/-! ### Ports and the link -/

/-- REQUEST FRAME, a transaction of kind REQUEST with a valid control byte, taken moment by moment or
whole: at the fall of CS_n bytes 0 and 1 of the return frame are fixed; at the receipt of byte 1 the
ACK is honoured and the message offered is chosen; at the end of the complete transaction the
acknowledgment state names that message, and the request is admitted or refused by the table of R166;
nothing else changes (R160 to R163, R165 to R167). What SDO showed is kept, and a transaction has three
moments, by the model's choice (notes/assumptions/7.md and 8.md). -/
def Obligations.RequestFrameAdmission : Prop :=
  ∀ (h : HostId) (bytes : List Byte) (s : State),
    momentsOf (fun part => .requestFrame h part bytes) s h bytes ∧
      (56 ≤ bytes.length →
        ∀ m ∈ chosen s h (bytes.getD 0 0) (bytes.getD 1 0), m.kind = .request →
          let q := m.port
          let n := (bytes.getD 4 0).toNat
          let crc := crc8 ((bytes.drop 2).take (3 + n))
          let ends (a : Admission) (inbound : List Request) : Prop :=
            ∃ t : State, exec (.requestFrame h .finish bytes) s = .next t ∧
              onlyPort s t h
                { q with
                  inbound := inbound, admission := a, ack := m.offered, link := .idle
                  sdo := m.frame ++ List.replicate (bytes.length - m.frame.length) 0xFF }
          (48 < n → ends .length q.inbound) ∧
            (n ≤ 48 → crc ≠ bytes.getD (5 + n) 0 → ends .crc q.inbound) ∧
            (n ≤ 48 → crc = bytes.getD (5 + n) 0 → 3 ≤ q.inbound.length + q.replies.length →
              ends .full q.inbound) ∧
            (n ≤ 48 → crc = bytes.getD (5 + n) 0 → q.inbound.length + q.replies.length < 3 →
              ends .accepted
                (q.inbound ++ [⟨bytes.getD 2 0, bytes.getD 3 0, (bytes.drop 5).take n⟩])))

/-- NULL FRAME, a transaction that carries no request (kind NULL, the fourth kind code, or an invalid
control byte), taken moment by moment or whole: a valid ACK is honoured, and at the end of the complete
transaction the status is NONE and the acknowledgment state names the message offered; nothing else
changes (R161 to R163, R166; notes/assumptions/7.md and 8.md). -/
def Obligations.NullFrame : Prop :=
  ∀ (h : HostId) (bytes : List Byte) (s : State),
    momentsOf (fun part => .nullFrame h part bytes) s h bytes ∧
      (56 ≤ bytes.length →
        ∀ m ∈ chosen s h (bytes.getD 0 0) (bytes.getD 1 0), m.kind = .null →
          ∃ t : State, exec (.nullFrame h .finish bytes) s = .next t ∧
            onlyPort s t h
              { m.port with
                admission := .none, ack := m.offered, link := .idle
                sdo := m.frame ++ List.replicate (bytes.length - m.frame.length) 0xFF })

/-- SHORT TRANSACTION, fewer than 56 bytes, taken moment by moment or whole: the status is SHORT and no
request is admitted; with bytes 0 and 1 received a valid ACK was honoured and the acknowledgment state
is none, and otherwise it stays (R161, R162, R164, R166; notes/assumptions/7.md and 8.md). -/
def Obligations.ShortTransaction : Prop :=
  ∀ (h : HostId) (bytes : List Byte) (s : State), bytes.length < 56 →
    let p := s.port h
    let ends (q : Port) : Prop :=
      ∃ t : State, exec (.shortTransaction h .finish bytes) s = .next t ∧ onlyPort s t h q
    momentsOf (fun part => .shortTransaction h part bytes) s h bytes ∧
      (bytes.length < 2 → portFree s h →
        ends
          { p with
            admission := .short
            sdo := [p.admission.code, BitVec.ofNat 8 p.flags].take bytes.length }) ∧
      (bytes.length < 2 → ∀ r ∈ fixedBytes p.link,
        ends
          { p with
            admission := .short, link := .idle, sdo := [r.1, r.2].take bytes.length }) ∧
      (2 ≤ bytes.length ∨ byte1Taken p.link = true →
        ∀ m ∈ chosen s h (bytes.getD 0 0) (bytes.getD 1 0),
          ends
            { m.port with
              admission := .short, ack := .nothing, link := .idle
              sdo := m.frame.take bytes.length })

/-- ACK, at the receipt of byte 1 of a transaction: the message that the acknowledgment state names
leaves its queue, the state is none, and only then is the message to offer chosen (R161, R163, R165;
the moment by notes/assumptions/8.md). -/
def Obligations.AckRemovesMessage : Prop :=
  ∀ (h : HostId) (control r0 r1 : Byte) (s : State), control.getLsbD 7 = true →
    (portFree s h →
        ∃ t : State, exec (.ack h control) s = .next t ∧
          onlyPort s t h
            { acked (s.port h) with
              link :=
                .offering (kindOf control (~~~control))
                  (returned (s.port h) (acked (s.port h))) (offers (acked (s.port h))) }) ∧
      ((s.port h).link = .selected r0 r1 →
        ∃ t : State, exec (.ack h control) s = .next t ∧
          onlyPort s t h
            { acked (s.port h) with
              link :=
                .offering (kindOf control (~~~control))
                  (returnFrame r0 r1 (acked (s.port h)).head)
                  (offers (acked (s.port h))) })

/-- PORT RESET, by a frame of that kind in a complete transaction, taken moment by moment or whole, or
by the fall of PRST_n: the port's queues are empty, its acknowledgment state none and its last status
NONE, and the host's session is reset in every block; the other hosts are told exactly what the lane
table's and the agreement unit's endings tell them, either block first (R35, R60, R74, R95, R118, R133,
R134, R158, R159, R170, R171, R175). That a giver whose port is held by PRST_n is not told OFFER_ENDED is
the model's choice between R134 and R171 (notes/assumptions/27.md), and that a voter's reset which makes
the record AGREED demotes books of other hosts is its choice between R159 and R61
(notes/assumptions/28.md). Of a transaction that the fall of PRST_n abandons, the bytes shifted out by
then are kept (R171). That the reset host itself is told nothing, that what SDO showed is kept, and the
moments of a transaction are the model's (notes/assumptions/17.md, 7.md and 8.md). -/
def Obligations.PortResets : Prop :=
  ∀ (h : HostId) (bytes : List Byte) (sent : Nat) (first : Bool) (s : State),
    momentsOf (fun part => .portReset h part bytes first) s h bytes ∧
      (ownershipKept s →
        (56 ≤ bytes.length →
            ∀ m ∈ chosen s h (bytes.getD 0 0) (bytes.getD 1 0), m.kind = .portReset →
              ∃ t : State, exec (.portReset h .finish bytes first) s = .next t ∧
                sessionReset s t h first ∧
                t.port h =
                  { m.port with
                    inbound := [], replies := [], notices := [], ack := .nothing
                    admission := .none, link := .idle
                    sdo := m.frame ++ List.replicate (bytes.length - m.frame.length) 0xFF }) ∧
          (s.rstN = true → (s.port h).held = false →
            ∃ t : State, exec (.prstNLow h sent first) s = .next t ∧
              sessionReset s t h first ∧
              (t.port h).inbound = [] ∧ (t.port h).replies = [] ∧ (t.port h).notices = [] ∧
              (t.port h).ack = .nothing ∧ (t.port h).admission = .none ∧
              (t.port h).held = true ∧ takenUp (t.port h).link = false ∧
              abandons sent (s.port h).link (t.port h).link))

/-- While PRST_n or RST_n is low the port takes no transaction, whatever frame comes and whichever of its
moments: nothing of the port changes but the transaction in progress, SDO shifts ones beyond what was
shown before the transaction was abandoned, and an ACK removes nothing (R171, R173). While PRST_n is low
a notice to the host is discarded, and at its rise the port leaves reset with empty queues,
acknowledgment state none and last status NONE (R171). The moments of a transaction, that what SDO
showed is kept, and what it shows of a transaction during which the pin was high for a while, are the
model's (notes/assumptions/7.md, 8.md and 29.md). -/
def Obligations.HeldPort : Prop :=
  ∀ (h : HostId) (bytes : List Byte) (control : Byte) (first : Bool) (n : NoticeBody) (s : State),
    let p := s.port h
    let shown := shownOf p.link
    (p.held = true ∨ s.rstN = false → takenUp p.link = false →
        (∀ c ∈
            framesOf h bytes first .select ++ framesOf h bytes first .control ++ [.ack h control],
          ∃ t : State, exec c s = .next t ∧ onlyPort s t h { p with link := .lost shown }) ∧
          ∀ c ∈ framesOf h bytes first .finish,
            ∃ t : State, exec c s = .next t ∧
              onlyPort s t h
                { p with
                  link := .idle
                  sdo := shown ++ List.replicate (bytes.length - shown.length) 0xFF }) ∧
      (p.held = true →
        s.post h n = s ∧
          ∃ t : State, exec (.prstNRise h) s = .next t ∧
            onlyPort s t h
              { p with
                inbound := [], replies := [], notices := [], ack := .nothing, admission := .none
                held := false })

/-- POWER-ON RESET holds every block at its power-on values, whatever they were, and the release of
RST_n changes nothing but the pin: it is no boundary (R12, R34, R59, R75, R96, R119, R145, R159,
R173). Of a transaction in progress the bytes shifted out before RST_n fell are kept; the port does not
take it (R173). That the PRST_n pins keep their levels is notes/assumptions/22.md. -/
def Obligations.PowerOnReset : Prop :=
  ∀ (sent : Vector Nat 4) (s : State),
    (∃ t : State, exec (.powerOnReset sent) s = .next t ∧ t.rstN = false ∧
      t.timebase = ⟨1000000, 0, 0, none, false⟩ ∧ t.jobs = [] ∧ t.proposal = none ∧
      t.lastServed = 3 ∧
      (∀ l : LaneId,
        t.lane l =
          { state := .free, holder := none, settings := ⟨.activeHigh, 1, false, 4⟩,
            pending := none, level := false, pulseEnd := none, offer := none,
            faultFlag := false, faultCount := 0, faultRecord := none, check := none }) ∧
      (∀ h : HostId,
        t.host h =
          ⟨⟨[], .draft, none, none⟩, ⟨[], .draft, none, none⟩, 0, none,
            ⟨.single, none, .none, 1, 1, 0⟩⟩) ∧
      ∀ h : HostId,
        (t.port h).inbound = [] ∧ (t.port h).replies = [] ∧ (t.port h).notices = [] ∧
          (t.port h).ack = .nothing ∧ (t.port h).admission = .none ∧
          (t.port h).freeCredits = 3 ∧ (t.port h).held = (s.port h).held ∧
          abandons (sent.get h) (s.port h).link (t.port h).link ∧ t.attn h = false) ∧
      exec .rstNRelease s = .next { s with rstN := true }

/-- What a port shows. The return frame: 56 bytes, the two bytes fixed at the fall of CS_n, class and
length, the message, the CRC over all of these, and ones (10.7); the codes of the admission statuses are
those of 10.7; the port flags show what is waiting and the free credits, and ATTN that something is
(R161, R165, R167); the bytes of a reply and of a
notice are those of the tables of 10.7, field by field, the lane record, the status block and the cues
of a book among them; and no notice is too long for the frame. The bytes of an absent field that the
manual gives no value are not stated, and bits outside the named fields are 0 by the model's reading
(notes/assumptions/12.md), as are the bytes of a SWAP refused without a book (notes/assumptions/13.md). -/
def Obligations.ReturnFrameLayout : Prop :=
  (∀ (b0 b1 : Byte) (n : Named) (msg : List Byte), msg.length ≤ 52 →
      (returnFrame b0 b1 (n, msg)).length = 56 ∧
        (returnFrame b0 b1 (n, msg)).take (3 + msg.length) =
          b0 :: b1 ::
            BitVec.ofNat 8
              ((match n with
                | .nothing => 0
                | .reply => 64
                | .notice => 128) + msg.length) :: msg ∧
        (returnFrame b0 b1 (n, msg))[3 + msg.length]? =
          some (crc8 ((returnFrame b0 b1 (n, msg)).take (3 + msg.length))) ∧
        ∀ i ∈ List.range 56, 3 + msg.length < i →
          (returnFrame b0 b1 (n, msg))[i]? = some 0xFF) ∧
    (∀ p : Port,
      p.flags =
        (if p.replies = [] then 0 else 128) + (if p.notices = [] then 0 else 64) +
          16 * (3 - (p.inbound.length + p.replies.length))) ∧
    (∀ a : Admission, a.code = byteOf (admissionTable.idxOf a)) ∧
    (∀ (s : State) (h : HostId),
      s.attn h = true ↔
        s.rstN = true ∧ (s.port h).held = false ∧
          ((s.port h).replies ≠ [] ∨ (s.port h).notices ≠ [])) ∧
    (∀ r : Reply,
      r.bytes.take 3 = [r.seq, r.code, byteOf (outcomeTable.idxOf r.outcome)] ∧
        resultLayout r.result (r.bytes.drop 3)) ∧
    ∀ n : Notice,
      n.bytes.length ≤ 52 ∧
        n.bytes.length =
          6 + (noticeTable n.body).2.length + (if lacksTag n.body = true then 2 else 0) ∧
        n.bytes.take (6 + (noticeTable n.body).2.length) =
          byteOf (noticeTable n.body).1 :: bytes4 n.frame.toNat ++
            byteOf n.repeats :: (noticeTable n.body).2

/-- The notice queue takes a new notice by the first of four steps: merge into a matching youngest
entry, discard while an OVERFLOW entry is present, overflow at 15 ordinary entries, append. A merge into
the entry that the acknowledgment state names makes the state none, and a merge into the entry that a
transaction in progress offers leaves that transaction with none to name at its end. Two notices match
when they are of one kind, other than OVERFLOW, with equal subject keys (R176 to R179).
The queue is as 11.3 keeps it. -/
def Obligations.NoticeQueueSteps : Prop :=
  (∀ a b : NoticeBody, a.matches b = true ↔ keysAgree a b) ∧
    ∀ (p : Port) (n : Notice), n.isOverflow = false → n.repeats = 1 →
      (p.notices.filter fun m => !m.isOverflow).length ≤ 15 →
        (∀ m ∈ p.notices.dropLast, m.isOverflow = false) →
          (p.notices = [] → (p.enqueue n).notices = [n]) ∧
            ∀ y ∈ p.notices.getLast?,
              (y.isOverflow = false → y.body.matches n.body = true →
                  (p.enqueue n).notices =
                      p.notices.dropLast ++ [{ n with repeats := min 255 (y.repeats + 1) }] ∧
                    (p.ack = .notice → p.notices.length = 1 → (p.enqueue n).ack = .nothing) ∧
                    (∀ m ∈ chosenIn p.link, m.2.2 = .notice → p.notices.length = 1 →
                      (p.enqueue n).link = .offering m.1 m.2.1 .nothing) ∧
                    (2 ≤ p.notices.length →
                      (p.enqueue n).ack = p.ack ∧ (p.enqueue n).link = p.link)) ∧
                (∀ k ∈ overflowCount y,
                  (p.enqueue n).notices =
                    p.notices.dropLast ++ [{ y with body := .overflow (min 255 (k + 1)) }]) ∧
                (y.isOverflow = false → y.body.matches n.body = false → p.notices.length = 15 →
                  (p.enqueue n).notices =
                    p.notices ++ [{ n with body := .overflow 1 }]) ∧
                (y.isOverflow = false → y.body.matches n.body = false →
                  p.notices.length < 15 → (p.enqueue n).notices = p.notices ++ [n])

/-! ### Laws -/

/-- Every law holds of the part just after power-on reset. -/
def Obligations.ResetKeepsLaws : Prop :=
  portsKept State.reset ∧ agreementKept State.reset ∧ lanesKept State.reset ∧
    levelsKept State.reset ∧ cuesKept State.reset ∧ booksKept State.reset ∧
    fitsKept State.reset

/-- No step breaks the laws of the ports: at most 3 requests and replies waiting, at most 15 ordinary
notices with an OVERFLOW only as the youngest, an acknowledgment state that names a message still in
its queue, and no transaction acted on by a port held in reset (R163, R164, R167, R171, 11.3). -/
def Obligations.StepKeepsPorts : Prop :=
  ∀ s t : State, portsKept s → step s = .next t → portsKept t

/-- No step breaks the laws of the timebase and the proposal record: F and every length that may
become F are 16 to 16,777,216 with the position below F, and a next length is present exactly for an
AGREED record, whose every voter has voted YES (R1, R2, R8, R146). -/
def Obligations.StepKeepsAgreement : Prop :=
  ∀ s t : State, agreementKept s → step s = .next t → agreementKept t

/-- No step breaks the laws of the lane table and the monitor: who holds a lane and when an offer is
present, at most 3 faults with a faulted lane inactive, unoffered and unchecked, settings in their
ranges, and a pending check of 1 to 15 ticks on watched lanes only (R13, R14, R120, R131, R136, R140,
R141). -/
def Obligations.StepKeepsLanes : Prop :=
  ∀ s t : State, lanesKept s → step s = .next t → lanesKept t

/-- No step breaks the laws of the levels: a pulse end is a later position of the frame now running, a
lane that is FREE or RETIRING is inactive unless a pulse runs, and every cue of every book has its
fields in range (R13, R17, R18, R25, R37). -/
def Obligations.StepKeepsLevels : Prop :=
  ∀ s t : State, levelsKept s → cuesKept s → step s = .next t → levelsKept t ∧ cuesKept t

/-- No step breaks the laws of the books: slot counts and the common slots, books of at most 512 cues,
load contexts, one job per host and a COMPILING book for each job, run records that agree with the
books, and run lists that are the order of their cues (R40 to R44, R55, R62, R63, R76, R97, R98). -/
def Obligations.StepKeepsBooks : Prop :=
  ∀ s t : State, booksKept s → step s = .next t → booksKept t

/-- After every step every READY or PENDING book fits the F in force and, while a proposal is AGREED,
the agreed length as well (R155). -/
def Obligations.StepKeepsFit : Prop :=
  ∀ s t : State, booksKept s → agreementKept s → fitsKept s → step s = .next t → fitsKept t
end

