-- ==== Sys2Proof/Laws/State.lean ====
section
/-!
SUPPORT. What each update of the state leaves each field and each part: one lemma per field per
update, true by `rfl`, and the reading of one lane, host record or port after a write.
-/

namespace Sys2Proof.Machine

/-! ### Updates of the state -/

@[simp] theorem State.setLane_rstN (s : State) (l : LaneId) (x : Lane) :
    (s.setLane l x).rstN = s.rstN := rfl

@[simp] theorem State.setLane_timebase (s : State) (l : LaneId) (x : Lane) :
    (s.setLane l x).timebase = s.timebase := rfl

@[simp] theorem State.setLane_rbk (s : State) (l : LaneId) (x : Lane) :
    (s.setLane l x).rbk = s.rbk := rfl

@[simp] theorem State.setLane_lanes (s : State) (l : LaneId) (x : Lane) :
    (s.setLane l x).lanes = s.lanes.set l.val x := rfl

@[simp] theorem State.setLane_hosts (s : State) (l : LaneId) (x : Lane) :
    (s.setLane l x).hosts = s.hosts := rfl

@[simp] theorem State.setLane_jobs (s : State) (l : LaneId) (x : Lane) :
    (s.setLane l x).jobs = s.jobs := rfl

@[simp] theorem State.setLane_proposal (s : State) (l : LaneId) (x : Lane) :
    (s.setLane l x).proposal = s.proposal := rfl

@[simp] theorem State.setLane_ports (s : State) (l : LaneId) (x : Lane) :
    (s.setLane l x).ports = s.ports := rfl

@[simp] theorem State.setLane_lastServed (s : State) (l : LaneId) (x : Lane) :
    (s.setLane l x).lastServed = s.lastServed := rfl

@[simp] theorem State.setLane_draws (s : State) (l : LaneId) (x : Lane) :
    (s.setLane l x).draws = s.draws := rfl

@[simp] theorem State.setLane_pending (s : State) (l : LaneId) (x : Lane) :
    (s.setLane l x).pending = s.pending := rfl

@[simp] theorem State.host_setLane (s : State) (l : LaneId) (x : Lane) (k : HostId) :
    (s.setLane l x).host k = s.host k := rfl

@[simp] theorem State.port_setLane (s : State) (l : LaneId) (x : Lane) (k : HostId) :
    (s.setLane l x).port k = s.port k := rfl

@[simp] theorem State.run_setLane (s : State) (l : LaneId) (x : Lane) (k : HostId) :
    (s.setLane l x).run k = s.run k := rfl

@[simp] theorem State.book_setLane (s : State) (l : LaneId) (x : Lane) (k : HostId) (b : BookId) :
    (s.setLane l x).book k b = s.book k b := rfl

@[simp] theorem State.setHost_rstN (s : State) (h : HostId) (x : HostRecord) :
    (s.setHost h x).rstN = s.rstN := rfl

@[simp] theorem State.setHost_timebase (s : State) (h : HostId) (x : HostRecord) :
    (s.setHost h x).timebase = s.timebase := rfl

@[simp] theorem State.setHost_rbk (s : State) (h : HostId) (x : HostRecord) :
    (s.setHost h x).rbk = s.rbk := rfl

@[simp] theorem State.setHost_lanes (s : State) (h : HostId) (x : HostRecord) :
    (s.setHost h x).lanes = s.lanes := rfl

@[simp] theorem State.setHost_hosts (s : State) (h : HostId) (x : HostRecord) :
    (s.setHost h x).hosts = s.hosts.set h.val x := rfl

@[simp] theorem State.setHost_jobs (s : State) (h : HostId) (x : HostRecord) :
    (s.setHost h x).jobs = s.jobs := rfl

@[simp] theorem State.setHost_proposal (s : State) (h : HostId) (x : HostRecord) :
    (s.setHost h x).proposal = s.proposal := rfl

@[simp] theorem State.setHost_ports (s : State) (h : HostId) (x : HostRecord) :
    (s.setHost h x).ports = s.ports := rfl

@[simp] theorem State.setHost_lastServed (s : State) (h : HostId) (x : HostRecord) :
    (s.setHost h x).lastServed = s.lastServed := rfl

@[simp] theorem State.setHost_draws (s : State) (h : HostId) (x : HostRecord) :
    (s.setHost h x).draws = s.draws := rfl

@[simp] theorem State.setHost_pending (s : State) (h : HostId) (x : HostRecord) :
    (s.setHost h x).pending = s.pending := rfl

@[simp] theorem State.lane_setHost (s : State) (h : HostId) (x : HostRecord) (k : LaneId) :
    (s.setHost h x).lane k = s.lane k := rfl

@[simp] theorem State.port_setHost (s : State) (h : HostId) (x : HostRecord) (k : HostId) :
    (s.setHost h x).port k = s.port k := rfl

@[simp] theorem State.setPort_rstN (s : State) (h : HostId) (x : Port) :
    (s.setPort h x).rstN = s.rstN := rfl

@[simp] theorem State.setPort_timebase (s : State) (h : HostId) (x : Port) :
    (s.setPort h x).timebase = s.timebase := rfl

@[simp] theorem State.setPort_rbk (s : State) (h : HostId) (x : Port) :
    (s.setPort h x).rbk = s.rbk := rfl

@[simp] theorem State.setPort_lanes (s : State) (h : HostId) (x : Port) :
    (s.setPort h x).lanes = s.lanes := rfl

@[simp] theorem State.setPort_hosts (s : State) (h : HostId) (x : Port) :
    (s.setPort h x).hosts = s.hosts := rfl

@[simp] theorem State.setPort_jobs (s : State) (h : HostId) (x : Port) :
    (s.setPort h x).jobs = s.jobs := rfl

@[simp] theorem State.setPort_proposal (s : State) (h : HostId) (x : Port) :
    (s.setPort h x).proposal = s.proposal := rfl

@[simp] theorem State.setPort_ports (s : State) (h : HostId) (x : Port) :
    (s.setPort h x).ports = s.ports.set h.val x := rfl

@[simp] theorem State.setPort_lastServed (s : State) (h : HostId) (x : Port) :
    (s.setPort h x).lastServed = s.lastServed := rfl

@[simp] theorem State.setPort_draws (s : State) (h : HostId) (x : Port) :
    (s.setPort h x).draws = s.draws := rfl

@[simp] theorem State.setPort_pending (s : State) (h : HostId) (x : Port) :
    (s.setPort h x).pending = s.pending := rfl

@[simp] theorem State.lane_setPort (s : State) (h : HostId) (x : Port) (k : LaneId) :
    (s.setPort h x).lane k = s.lane k := rfl

@[simp] theorem State.host_setPort (s : State) (h : HostId) (x : Port) (k : HostId) :
    (s.setPort h x).host k = s.host k := rfl

@[simp] theorem State.run_setPort (s : State) (h : HostId) (x : Port) (k : HostId) :
    (s.setPort h x).run k = s.run k := rfl

@[simp] theorem State.book_setPort (s : State) (h : HostId) (x : Port) (k : HostId) (b : BookId) :
    (s.setPort h x).book k b = s.book k b := rfl

@[simp] theorem State.setRstN_rstN (s : State) (x : Bool) :
    (s.setRstN x).rstN = x := rfl

@[simp] theorem State.setRstN_timebase (s : State) (x : Bool) :
    (s.setRstN x).timebase = s.timebase := rfl

@[simp] theorem State.setRstN_rbk (s : State) (x : Bool) :
    (s.setRstN x).rbk = s.rbk := rfl

@[simp] theorem State.setRstN_lanes (s : State) (x : Bool) :
    (s.setRstN x).lanes = s.lanes := rfl

@[simp] theorem State.setRstN_hosts (s : State) (x : Bool) :
    (s.setRstN x).hosts = s.hosts := rfl

@[simp] theorem State.setRstN_jobs (s : State) (x : Bool) :
    (s.setRstN x).jobs = s.jobs := rfl

@[simp] theorem State.setRstN_proposal (s : State) (x : Bool) :
    (s.setRstN x).proposal = s.proposal := rfl

@[simp] theorem State.setRstN_ports (s : State) (x : Bool) :
    (s.setRstN x).ports = s.ports := rfl

@[simp] theorem State.setRstN_lastServed (s : State) (x : Bool) :
    (s.setRstN x).lastServed = s.lastServed := rfl

@[simp] theorem State.setRstN_draws (s : State) (x : Bool) :
    (s.setRstN x).draws = s.draws := rfl

@[simp] theorem State.setRstN_pending (s : State) (x : Bool) :
    (s.setRstN x).pending = s.pending := rfl

@[simp] theorem State.lane_setRstN (s : State) (x : Bool) (k : LaneId) :
    (s.setRstN x).lane k = s.lane k := rfl

@[simp] theorem State.host_setRstN (s : State) (x : Bool) (k : HostId) :
    (s.setRstN x).host k = s.host k := rfl

@[simp] theorem State.port_setRstN (s : State) (x : Bool) (k : HostId) :
    (s.setRstN x).port k = s.port k := rfl

@[simp] theorem State.run_setRstN (s : State) (x : Bool) (k : HostId) :
    (s.setRstN x).run k = s.run k := rfl

@[simp] theorem State.book_setRstN (s : State) (x : Bool) (k : HostId) (b : BookId) :
    (s.setRstN x).book k b = s.book k b := rfl

@[simp] theorem State.setTimebase_rstN (s : State) (x : Timebase) :
    (s.setTimebase x).rstN = s.rstN := rfl

@[simp] theorem State.setTimebase_timebase (s : State) (x : Timebase) :
    (s.setTimebase x).timebase = x := rfl

@[simp] theorem State.setTimebase_rbk (s : State) (x : Timebase) :
    (s.setTimebase x).rbk = s.rbk := rfl

@[simp] theorem State.setTimebase_lanes (s : State) (x : Timebase) :
    (s.setTimebase x).lanes = s.lanes := rfl

@[simp] theorem State.setTimebase_hosts (s : State) (x : Timebase) :
    (s.setTimebase x).hosts = s.hosts := rfl

@[simp] theorem State.setTimebase_jobs (s : State) (x : Timebase) :
    (s.setTimebase x).jobs = s.jobs := rfl

@[simp] theorem State.setTimebase_proposal (s : State) (x : Timebase) :
    (s.setTimebase x).proposal = s.proposal := rfl

@[simp] theorem State.setTimebase_ports (s : State) (x : Timebase) :
    (s.setTimebase x).ports = s.ports := rfl

@[simp] theorem State.setTimebase_lastServed (s : State) (x : Timebase) :
    (s.setTimebase x).lastServed = s.lastServed := rfl

@[simp] theorem State.setTimebase_draws (s : State) (x : Timebase) :
    (s.setTimebase x).draws = s.draws := rfl

@[simp] theorem State.setTimebase_pending (s : State) (x : Timebase) :
    (s.setTimebase x).pending = s.pending := rfl

@[simp] theorem State.lane_setTimebase (s : State) (x : Timebase) (k : LaneId) :
    (s.setTimebase x).lane k = s.lane k := rfl

@[simp] theorem State.host_setTimebase (s : State) (x : Timebase) (k : HostId) :
    (s.setTimebase x).host k = s.host k := rfl

@[simp] theorem State.port_setTimebase (s : State) (x : Timebase) (k : HostId) :
    (s.setTimebase x).port k = s.port k := rfl

@[simp] theorem State.run_setTimebase (s : State) (x : Timebase) (k : HostId) :
    (s.setTimebase x).run k = s.run k := rfl

@[simp] theorem State.book_setTimebase (s : State) (x : Timebase) (k : HostId) (b : BookId) :
    (s.setTimebase x).book k b = s.book k b := rfl

@[simp] theorem State.setRbk_rstN (s : State) (x : BitVec 16) :
    (s.setRbk x).rstN = s.rstN := rfl

@[simp] theorem State.setRbk_timebase (s : State) (x : BitVec 16) :
    (s.setRbk x).timebase = s.timebase := rfl

@[simp] theorem State.setRbk_rbk (s : State) (x : BitVec 16) :
    (s.setRbk x).rbk = x := rfl

@[simp] theorem State.setRbk_lanes (s : State) (x : BitVec 16) :
    (s.setRbk x).lanes = s.lanes := rfl

@[simp] theorem State.setRbk_hosts (s : State) (x : BitVec 16) :
    (s.setRbk x).hosts = s.hosts := rfl

@[simp] theorem State.setRbk_jobs (s : State) (x : BitVec 16) :
    (s.setRbk x).jobs = s.jobs := rfl

@[simp] theorem State.setRbk_proposal (s : State) (x : BitVec 16) :
    (s.setRbk x).proposal = s.proposal := rfl

@[simp] theorem State.setRbk_ports (s : State) (x : BitVec 16) :
    (s.setRbk x).ports = s.ports := rfl

@[simp] theorem State.setRbk_lastServed (s : State) (x : BitVec 16) :
    (s.setRbk x).lastServed = s.lastServed := rfl

@[simp] theorem State.setRbk_draws (s : State) (x : BitVec 16) :
    (s.setRbk x).draws = s.draws := rfl

@[simp] theorem State.setRbk_pending (s : State) (x : BitVec 16) :
    (s.setRbk x).pending = s.pending := rfl

@[simp] theorem State.lane_setRbk (s : State) (x : BitVec 16) (k : LaneId) :
    (s.setRbk x).lane k = s.lane k := rfl

@[simp] theorem State.host_setRbk (s : State) (x : BitVec 16) (k : HostId) :
    (s.setRbk x).host k = s.host k := rfl

@[simp] theorem State.port_setRbk (s : State) (x : BitVec 16) (k : HostId) :
    (s.setRbk x).port k = s.port k := rfl

@[simp] theorem State.run_setRbk (s : State) (x : BitVec 16) (k : HostId) :
    (s.setRbk x).run k = s.run k := rfl

@[simp] theorem State.book_setRbk (s : State) (x : BitVec 16) (k : HostId) (b : BookId) :
    (s.setRbk x).book k b = s.book k b := rfl

@[simp] theorem State.setLanes_rstN (s : State) (x : Vector Lane 16) :
    (s.setLanes x).rstN = s.rstN := rfl

@[simp] theorem State.setLanes_timebase (s : State) (x : Vector Lane 16) :
    (s.setLanes x).timebase = s.timebase := rfl

@[simp] theorem State.setLanes_rbk (s : State) (x : Vector Lane 16) :
    (s.setLanes x).rbk = s.rbk := rfl

@[simp] theorem State.setLanes_lanes (s : State) (x : Vector Lane 16) :
    (s.setLanes x).lanes = x := rfl

@[simp] theorem State.setLanes_hosts (s : State) (x : Vector Lane 16) :
    (s.setLanes x).hosts = s.hosts := rfl

@[simp] theorem State.setLanes_jobs (s : State) (x : Vector Lane 16) :
    (s.setLanes x).jobs = s.jobs := rfl

@[simp] theorem State.setLanes_proposal (s : State) (x : Vector Lane 16) :
    (s.setLanes x).proposal = s.proposal := rfl

@[simp] theorem State.setLanes_ports (s : State) (x : Vector Lane 16) :
    (s.setLanes x).ports = s.ports := rfl

@[simp] theorem State.setLanes_lastServed (s : State) (x : Vector Lane 16) :
    (s.setLanes x).lastServed = s.lastServed := rfl

@[simp] theorem State.setLanes_draws (s : State) (x : Vector Lane 16) :
    (s.setLanes x).draws = s.draws := rfl

@[simp] theorem State.setLanes_pending (s : State) (x : Vector Lane 16) :
    (s.setLanes x).pending = s.pending := rfl

@[simp] theorem State.host_setLanes (s : State) (x : Vector Lane 16) (k : HostId) :
    (s.setLanes x).host k = s.host k := rfl

@[simp] theorem State.port_setLanes (s : State) (x : Vector Lane 16) (k : HostId) :
    (s.setLanes x).port k = s.port k := rfl

@[simp] theorem State.run_setLanes (s : State) (x : Vector Lane 16) (k : HostId) :
    (s.setLanes x).run k = s.run k := rfl

@[simp] theorem State.book_setLanes (s : State) (x : Vector Lane 16) (k : HostId) (b : BookId) :
    (s.setLanes x).book k b = s.book k b := rfl

@[simp] theorem State.setJobs_rstN (s : State) (x : List Job) :
    (s.setJobs x).rstN = s.rstN := rfl

@[simp] theorem State.setJobs_timebase (s : State) (x : List Job) :
    (s.setJobs x).timebase = s.timebase := rfl

@[simp] theorem State.setJobs_rbk (s : State) (x : List Job) :
    (s.setJobs x).rbk = s.rbk := rfl

@[simp] theorem State.setJobs_lanes (s : State) (x : List Job) :
    (s.setJobs x).lanes = s.lanes := rfl

@[simp] theorem State.setJobs_hosts (s : State) (x : List Job) :
    (s.setJobs x).hosts = s.hosts := rfl

@[simp] theorem State.setJobs_jobs (s : State) (x : List Job) :
    (s.setJobs x).jobs = x := rfl

@[simp] theorem State.setJobs_proposal (s : State) (x : List Job) :
    (s.setJobs x).proposal = s.proposal := rfl

@[simp] theorem State.setJobs_ports (s : State) (x : List Job) :
    (s.setJobs x).ports = s.ports := rfl

@[simp] theorem State.setJobs_lastServed (s : State) (x : List Job) :
    (s.setJobs x).lastServed = s.lastServed := rfl

@[simp] theorem State.setJobs_draws (s : State) (x : List Job) :
    (s.setJobs x).draws = s.draws := rfl

@[simp] theorem State.setJobs_pending (s : State) (x : List Job) :
    (s.setJobs x).pending = s.pending := rfl

@[simp] theorem State.lane_setJobs (s : State) (x : List Job) (k : LaneId) :
    (s.setJobs x).lane k = s.lane k := rfl

@[simp] theorem State.host_setJobs (s : State) (x : List Job) (k : HostId) :
    (s.setJobs x).host k = s.host k := rfl

@[simp] theorem State.port_setJobs (s : State) (x : List Job) (k : HostId) :
    (s.setJobs x).port k = s.port k := rfl

@[simp] theorem State.run_setJobs (s : State) (x : List Job) (k : HostId) :
    (s.setJobs x).run k = s.run k := rfl

@[simp] theorem State.book_setJobs (s : State) (x : List Job) (k : HostId) (b : BookId) :
    (s.setJobs x).book k b = s.book k b := rfl

@[simp] theorem State.setProposal_rstN (s : State) (x : Option Proposal) :
    (s.setProposal x).rstN = s.rstN := rfl

@[simp] theorem State.setProposal_timebase (s : State) (x : Option Proposal) :
    (s.setProposal x).timebase = s.timebase := rfl

@[simp] theorem State.setProposal_rbk (s : State) (x : Option Proposal) :
    (s.setProposal x).rbk = s.rbk := rfl

@[simp] theorem State.setProposal_lanes (s : State) (x : Option Proposal) :
    (s.setProposal x).lanes = s.lanes := rfl

@[simp] theorem State.setProposal_hosts (s : State) (x : Option Proposal) :
    (s.setProposal x).hosts = s.hosts := rfl

@[simp] theorem State.setProposal_jobs (s : State) (x : Option Proposal) :
    (s.setProposal x).jobs = s.jobs := rfl

@[simp] theorem State.setProposal_proposal (s : State) (x : Option Proposal) :
    (s.setProposal x).proposal = x := rfl

@[simp] theorem State.setProposal_ports (s : State) (x : Option Proposal) :
    (s.setProposal x).ports = s.ports := rfl

@[simp] theorem State.setProposal_lastServed (s : State) (x : Option Proposal) :
    (s.setProposal x).lastServed = s.lastServed := rfl

@[simp] theorem State.setProposal_draws (s : State) (x : Option Proposal) :
    (s.setProposal x).draws = s.draws := rfl

@[simp] theorem State.setProposal_pending (s : State) (x : Option Proposal) :
    (s.setProposal x).pending = s.pending := rfl

@[simp] theorem State.lane_setProposal (s : State) (x : Option Proposal) (k : LaneId) :
    (s.setProposal x).lane k = s.lane k := rfl

@[simp] theorem State.host_setProposal (s : State) (x : Option Proposal) (k : HostId) :
    (s.setProposal x).host k = s.host k := rfl

@[simp] theorem State.port_setProposal (s : State) (x : Option Proposal) (k : HostId) :
    (s.setProposal x).port k = s.port k := rfl

@[simp] theorem State.run_setProposal (s : State) (x : Option Proposal) (k : HostId) :
    (s.setProposal x).run k = s.run k := rfl

@[simp] theorem State.book_setProposal (s : State) (x : Option Proposal) (k : HostId) (b : BookId) :
    (s.setProposal x).book k b = s.book k b := rfl

@[simp] theorem State.setLastServed_rstN (s : State) (x : HostId) :
    (s.setLastServed x).rstN = s.rstN := rfl

@[simp] theorem State.setLastServed_timebase (s : State) (x : HostId) :
    (s.setLastServed x).timebase = s.timebase := rfl

@[simp] theorem State.setLastServed_rbk (s : State) (x : HostId) :
    (s.setLastServed x).rbk = s.rbk := rfl

@[simp] theorem State.setLastServed_lanes (s : State) (x : HostId) :
    (s.setLastServed x).lanes = s.lanes := rfl

@[simp] theorem State.setLastServed_hosts (s : State) (x : HostId) :
    (s.setLastServed x).hosts = s.hosts := rfl

@[simp] theorem State.setLastServed_jobs (s : State) (x : HostId) :
    (s.setLastServed x).jobs = s.jobs := rfl

@[simp] theorem State.setLastServed_proposal (s : State) (x : HostId) :
    (s.setLastServed x).proposal = s.proposal := rfl

@[simp] theorem State.setLastServed_ports (s : State) (x : HostId) :
    (s.setLastServed x).ports = s.ports := rfl

@[simp] theorem State.setLastServed_lastServed (s : State) (x : HostId) :
    (s.setLastServed x).lastServed = x := rfl

@[simp] theorem State.setLastServed_draws (s : State) (x : HostId) :
    (s.setLastServed x).draws = s.draws := rfl

@[simp] theorem State.setLastServed_pending (s : State) (x : HostId) :
    (s.setLastServed x).pending = s.pending := rfl

@[simp] theorem State.lane_setLastServed (s : State) (x : HostId) (k : LaneId) :
    (s.setLastServed x).lane k = s.lane k := rfl

@[simp] theorem State.host_setLastServed (s : State) (x : HostId) (k : HostId) :
    (s.setLastServed x).host k = s.host k := rfl

@[simp] theorem State.port_setLastServed (s : State) (x : HostId) (k : HostId) :
    (s.setLastServed x).port k = s.port k := rfl

@[simp] theorem State.run_setLastServed (s : State) (x : HostId) (k : HostId) :
    (s.setLastServed x).run k = s.run k := rfl

@[simp] theorem State.book_setLastServed (s : State) (x : HostId) (k : HostId) (b : BookId) :
    (s.setLastServed x).book k b = s.book k b := rfl

@[simp] theorem State.setDraws_rstN (s : State) (x : Nat) :
    (s.setDraws x).rstN = s.rstN := rfl

@[simp] theorem State.setDraws_timebase (s : State) (x : Nat) :
    (s.setDraws x).timebase = s.timebase := rfl

@[simp] theorem State.setDraws_rbk (s : State) (x : Nat) :
    (s.setDraws x).rbk = s.rbk := rfl

@[simp] theorem State.setDraws_lanes (s : State) (x : Nat) :
    (s.setDraws x).lanes = s.lanes := rfl

@[simp] theorem State.setDraws_hosts (s : State) (x : Nat) :
    (s.setDraws x).hosts = s.hosts := rfl

@[simp] theorem State.setDraws_jobs (s : State) (x : Nat) :
    (s.setDraws x).jobs = s.jobs := rfl

@[simp] theorem State.setDraws_proposal (s : State) (x : Nat) :
    (s.setDraws x).proposal = s.proposal := rfl

@[simp] theorem State.setDraws_ports (s : State) (x : Nat) :
    (s.setDraws x).ports = s.ports := rfl

@[simp] theorem State.setDraws_lastServed (s : State) (x : Nat) :
    (s.setDraws x).lastServed = s.lastServed := rfl

@[simp] theorem State.setDraws_draws (s : State) (x : Nat) :
    (s.setDraws x).draws = x := rfl

@[simp] theorem State.setDraws_pending (s : State) (x : Nat) :
    (s.setDraws x).pending = s.pending := rfl

@[simp] theorem State.lane_setDraws (s : State) (x : Nat) (k : LaneId) :
    (s.setDraws x).lane k = s.lane k := rfl

@[simp] theorem State.host_setDraws (s : State) (x : Nat) (k : HostId) :
    (s.setDraws x).host k = s.host k := rfl

@[simp] theorem State.port_setDraws (s : State) (x : Nat) (k : HostId) :
    (s.setDraws x).port k = s.port k := rfl

@[simp] theorem State.run_setDraws (s : State) (x : Nat) (k : HostId) :
    (s.setDraws x).run k = s.run k := rfl

@[simp] theorem State.book_setDraws (s : State) (x : Nat) (k : HostId) (b : BookId) :
    (s.setDraws x).book k b = s.book k b := rfl

@[simp] theorem State.setPending_rstN (s : State) (x : List Instr) :
    (s.setPending x).rstN = s.rstN := rfl

@[simp] theorem State.setPending_timebase (s : State) (x : List Instr) :
    (s.setPending x).timebase = s.timebase := rfl

@[simp] theorem State.setPending_rbk (s : State) (x : List Instr) :
    (s.setPending x).rbk = s.rbk := rfl

@[simp] theorem State.setPending_lanes (s : State) (x : List Instr) :
    (s.setPending x).lanes = s.lanes := rfl

@[simp] theorem State.setPending_hosts (s : State) (x : List Instr) :
    (s.setPending x).hosts = s.hosts := rfl

@[simp] theorem State.setPending_jobs (s : State) (x : List Instr) :
    (s.setPending x).jobs = s.jobs := rfl

@[simp] theorem State.setPending_proposal (s : State) (x : List Instr) :
    (s.setPending x).proposal = s.proposal := rfl

@[simp] theorem State.setPending_ports (s : State) (x : List Instr) :
    (s.setPending x).ports = s.ports := rfl

@[simp] theorem State.setPending_lastServed (s : State) (x : List Instr) :
    (s.setPending x).lastServed = s.lastServed := rfl

@[simp] theorem State.setPending_draws (s : State) (x : List Instr) :
    (s.setPending x).draws = s.draws := rfl

@[simp] theorem State.setPending_pending (s : State) (x : List Instr) :
    (s.setPending x).pending = x := rfl

@[simp] theorem State.lane_setPending (s : State) (x : List Instr) (k : LaneId) :
    (s.setPending x).lane k = s.lane k := rfl

@[simp] theorem State.host_setPending (s : State) (x : List Instr) (k : HostId) :
    (s.setPending x).host k = s.host k := rfl

@[simp] theorem State.port_setPending (s : State) (x : List Instr) (k : HostId) :
    (s.setPending x).port k = s.port k := rfl

@[simp] theorem State.run_setPending (s : State) (x : List Instr) (k : HostId) :
    (s.setPending x).run k = s.run k := rfl

@[simp] theorem State.book_setPending (s : State) (x : List Instr) (k : HostId) (b : BookId) :
    (s.setPending x).book k b = s.book k b := rfl


/-! ### Reading one part after a write of one -/

@[simp] theorem State.lane_setLane_self (s : State) (l : LaneId) (x : Lane) :
    (s.setLane l x).lane l = x := by simp [State.lane, State.setLane]

theorem State.lane_setLane (s : State) (l k : LaneId) (x : Lane) :
    (s.setLane l x).lane k = if k = l then x else s.lane k := by
  simp only [State.lane, State.setLane, Vector.getElem_set]
  simp [Fin.ext_iff, eq_comm]

@[simp] theorem State.lane_setLane_ne (s : State) {l k : LaneId} (x : Lane) (h : k ≠ l) :
    (s.setLane l x).lane k = s.lane k := by rw [State.lane_setLane, if_neg h]

@[simp] theorem State.host_setHost_self (s : State) (h : HostId) (x : HostRecord) :
    (s.setHost h x).host h = x := by simp [State.host, State.setHost]

theorem State.host_setHost (s : State) (h k : HostId) (x : HostRecord) :
    (s.setHost h x).host k = if k = h then x else s.host k := by
  simp only [State.host, State.setHost, Vector.getElem_set]
  simp [Fin.ext_iff, eq_comm]

@[simp] theorem State.host_setHost_ne (s : State) {h k : HostId} (x : HostRecord) (hk : k ≠ h) :
    (s.setHost h x).host k = s.host k := by rw [State.host_setHost, if_neg hk]

@[simp] theorem State.port_setPort_self (s : State) (h : HostId) (x : Port) :
    (s.setPort h x).port h = x := by simp [State.port, State.setPort]

theorem State.port_setPort (s : State) (h k : HostId) (x : Port) :
    (s.setPort h x).port k = if k = h then x else s.port k := by
  simp only [State.port, State.setPort, Vector.getElem_set]
  simp [Fin.ext_iff, eq_comm]

@[simp] theorem State.port_setPort_ne (s : State) {h k : HostId} (x : Port) (hk : k ≠ h) :
    (s.setPort h x).port k = s.port k := by rw [State.port_setPort, if_neg hk]

/-- A write of a lane over another of the same lane leaves the later one. -/
@[simp] theorem State.setLane_setLane (s : State) (l : LaneId) (x y : Lane) :
    (s.setLane l x).setLane l y = s.setLane l y := by simp [State.setLane]

/-- A write of a host record over another of the same host leaves the later one. -/
@[simp] theorem State.setHost_setHost (s : State) (h : HostId) (x y : HostRecord) :
    (s.setHost h x).setHost h y = s.setHost h y := by simp [State.setHost]

/-- A write of a port over another of the same port leaves the later one. -/
@[simp] theorem State.setPort_setPort (s : State) (h : HostId) (x y : Port) :
    (s.setPort h x).setPort h y = s.setPort h y := by simp [State.setPort]

@[simp] theorem State.lane_mapLanes (s : State) (f : Lane → Lane) (l : LaneId) :
    (s.mapLanes f).lane l = f (s.lane l) := by simp [State.lane, State.mapLanes, State.setLanes]

/-- The lanes of two states agree when each lane does. -/
theorem State.lanes_eq_iff (s t : State) : s.lanes = t.lanes ↔ ∀ l : LaneId, s.lane l = t.lane l := by
  refine ⟨fun h l => by simp [State.lane, h], fun h => ?_⟩
  ext1 i hi
  exact h ⟨i, hi⟩

/-- The host records of two states agree when each one does. -/
theorem State.hosts_eq_iff (s t : State) : s.hosts = t.hosts ↔ ∀ h : HostId, s.host h = t.host h := by
  refine ⟨fun h l => by simp [State.host, h], fun h => ?_⟩
  ext1 i hi
  exact h ⟨i, hi⟩

/-- The ports of two states agree when each port does. -/
theorem State.ports_eq_iff (s t : State) : s.ports = t.ports ↔ ∀ h : HostId, s.port h = t.port h := by
  refine ⟨fun h l => by simp [State.port, h], fun h => ?_⟩
  ext1 i hi
  exact h ⟨i, hi⟩

/-! ### Books and run records of one host -/

@[simp] theorem HostRecord.book_setBook_self (r : HostRecord) (b : BookId) (x : Book) :
    (r.setBook b x).book b = x := by cases b <;> rfl

@[simp] theorem HostRecord.book_setBook_ne (r : HostRecord) {b c : BookId} (x : Book) (h : c ≠ b) :
    (r.setBook b x).book c = r.book c := by cases b <;> cases c <;> first | rfl | exact absurd rfl h

@[simp] theorem BookId.other_ne (b : BookId) : b.other ≠ b := by cases b <;> decide

@[simp] theorem BookId.ne_other (b : BookId) : b ≠ b.other := by cases b <;> decide

@[simp] theorem BookId.other_other (b : BookId) : b.other.other = b := by cases b <;> rfl

@[simp] theorem HostRecord.setBook_slots (r : HostRecord) (b : BookId) (x : Book) :
    (r.setBook b x).slots = r.slots := by cases b <;> rfl

@[simp] theorem HostRecord.setBook_load (r : HostRecord) (b : BookId) (x : Book) :
    (r.setBook b x).load = r.load := by cases b <;> rfl

@[simp] theorem HostRecord.setBook_run (r : HostRecord) (b : BookId) (x : Book) :
    (r.setBook b x).run = r.run := by cases b <;> rfl

@[simp] theorem HostRecord.setSlots_bookA (r : HostRecord) (x : Nat) :
    (r.setSlots x).bookA = r.bookA := rfl

@[simp] theorem HostRecord.setSlots_bookB (r : HostRecord) (x : Nat) :
    (r.setSlots x).bookB = r.bookB := rfl

@[simp] theorem HostRecord.setSlots_slots (r : HostRecord) (x : Nat) :
    (r.setSlots x).slots = x := rfl

@[simp] theorem HostRecord.setSlots_load (r : HostRecord) (x : Nat) :
    (r.setSlots x).load = r.load := rfl

@[simp] theorem HostRecord.setSlots_run (r : HostRecord) (x : Nat) :
    (r.setSlots x).run = r.run := rfl

@[simp] theorem HostRecord.setSlots_book (r : HostRecord) (x : Nat) (b : BookId) :
    (r.setSlots x).book b = r.book b := by cases b <;> rfl

@[simp] theorem HostRecord.setLoad_bookA (r : HostRecord) (x : Option Load) :
    (r.setLoad x).bookA = r.bookA := rfl

@[simp] theorem HostRecord.setLoad_bookB (r : HostRecord) (x : Option Load) :
    (r.setLoad x).bookB = r.bookB := rfl

@[simp] theorem HostRecord.setLoad_slots (r : HostRecord) (x : Option Load) :
    (r.setLoad x).slots = r.slots := rfl

@[simp] theorem HostRecord.setLoad_load (r : HostRecord) (x : Option Load) :
    (r.setLoad x).load = x := rfl

@[simp] theorem HostRecord.setLoad_run (r : HostRecord) (x : Option Load) :
    (r.setLoad x).run = r.run := rfl

@[simp] theorem HostRecord.setLoad_book (r : HostRecord) (x : Option Load) (b : BookId) :
    (r.setLoad x).book b = r.book b := by cases b <;> rfl

@[simp] theorem HostRecord.setRun_bookA (r : HostRecord) (x : RunRecord) :
    (r.setRun x).bookA = r.bookA := rfl

@[simp] theorem HostRecord.setRun_bookB (r : HostRecord) (x : RunRecord) :
    (r.setRun x).bookB = r.bookB := rfl

@[simp] theorem HostRecord.setRun_slots (r : HostRecord) (x : RunRecord) :
    (r.setRun x).slots = r.slots := rfl

@[simp] theorem HostRecord.setRun_load (r : HostRecord) (x : RunRecord) :
    (r.setRun x).load = r.load := rfl

@[simp] theorem HostRecord.setRun_run (r : HostRecord) (x : RunRecord) :
    (r.setRun x).run = x := rfl

@[simp] theorem HostRecord.setRun_book (r : HostRecord) (x : RunRecord) (b : BookId) :
    (r.setRun x).book b = r.book b := by cases b <;> rfl

@[simp] theorem State.book_setBook_self (s : State) (h : HostId) (b : BookId) (x : Book) :
    (s.setBook h b x).book h b = x := by simp [State.book, State.setBook]

@[simp] theorem State.run_setRun_self (s : State) (h : HostId) (x : RunRecord) :
    (s.setRun h x).run h = x := by simp [State.run, State.setRun]

/-! ### Sets of hosts -/

@[simp] theorem HostSet.has_ofTest (f : HostId → Bool) (h : HostId) :
    HostSet.has (HostSet.ofTest f) h = f h := by simp [HostSet.has, HostSet.ofTest]

theorem HostSet.has_add (x : HostSet) (g h : HostId) :
    HostSet.has (HostSet.add x g) h = if h = g then true else HostSet.has x h := by
  simp only [HostSet.has, HostSet.add, Vector.getElem_set, ← Fin.ext_iff, eq_comm (a := g)]

theorem HostSet.has_remove (x : HostSet) (g h : HostId) :
    HostSet.has (HostSet.remove x g) h = if h = g then false else HostSet.has x h := by
  simp only [HostSet.has, HostSet.remove, Vector.getElem_set, ← Fin.ext_iff, eq_comm (a := g)]

/-- Two sets with the same hosts are equal. -/
theorem HostSet.ext_has {x y : HostSet} (h : ∀ g : HostId, HostSet.has x g = HostSet.has y g) :
    x = y := by
  apply Vector.ext
  intro i hi
  exact h ⟨i, hi⟩

@[simp] theorem HostSet.mem_toList (x : HostSet) (h : HostId) :
    h ∈ HostSet.toList x ↔ HostSet.has x h = true := by simp [HostSet.toList, allHosts]

/-! ### Lists of everything -/

@[simp] theorem mem_allLanes (l : LaneId) : l ∈ allLanes := List.mem_finRange l

@[simp] theorem mem_allHosts (h : HostId) : h ∈ allHosts := List.mem_finRange h

@[simp] theorem mem_allBooks (b : BookId) : b ∈ allBooks := by cases b <;> simp [allBooks]

end Sys2Proof.Machine
end

