-- ==== Sys2Proof/Laws/Posting.lean ====
section
/-!
SUPPORT. What posting a notice and placing a reply do: one lemma for each operation and each part it
leaves alone, and the reading of a port after any list of notices, without the model's own numbers.
-/

namespace Sys2Proof.Machine

open Sys2Proof.Safety

/-! ### The notice queue -/

@[simp] theorem Port.forgetNotice_notices (p : Port) : p.forgetNotice.notices = p.notices := rfl
@[simp] theorem Port.forgetNotice_replies (p : Port) : p.forgetNotice.replies = p.replies := rfl
@[simp] theorem Port.forgetNotice_inbound (p : Port) : p.forgetNotice.inbound = p.inbound := rfl
@[simp] theorem Port.forgetNotice_admission (p : Port) : p.forgetNotice.admission = p.admission := rfl
@[simp] theorem Port.forgetNotice_held (p : Port) : p.forgetNotice.held = p.held := rfl
@[simp] theorem Port.forgetNotice_sdo (p : Port) : p.forgetNotice.sdo = p.sdo := rfl

/-- The four steps of the notice queue, each with its condition (R177). -/
theorem Port.enqueue_cases (p : Port) (n : Notice) :
    (p.notices = [] ∧ p.enqueue n = { p with notices := [n] }) ∨
      ∃ y, p.notices.getLast? = some y ∧
        ((y.isOverflow = false ∧ y.body.matches n.body = true ∧
            p.enqueue n =
              { (if p.notices.length = 1 then p.forgetNotice else p) with
                notices := p.notices.dropLast ++ [y.merged n] }) ∨
          (¬ (y.isOverflow = false ∧ y.body.matches n.body = true) ∧
            p.notices.any Notice.isOverflow = true ∧
            p.enqueue n = { p with notices := p.notices.map Notice.countDiscarded }) ∨
          (¬ (y.isOverflow = false ∧ y.body.matches n.body = true) ∧
            p.notices.any Notice.isOverflow = false ∧ maxOrdinaryNotices ≤ p.notices.length ∧
            p.enqueue n = { p with notices := p.notices ++ [n.overflowFor] }) ∨
          (¬ (y.isOverflow = false ∧ y.body.matches n.body = true) ∧
            p.notices.any Notice.isOverflow = false ∧ p.notices.length < maxOrdinaryNotices ∧
            p.enqueue n = { p with notices := p.notices ++ [n] })) := by
  unfold Port.enqueue
  split
  · rename_i y hy
    refine .inr ⟨y, hy, ?_⟩
    by_cases h1 : (!y.isOverflow && y.body.matches n.body) = true
    · simp only [h1, if_true]
      simp only [Bool.and_eq_true, Bool.not_eq_true'] at h1
      exact .inl ⟨h1.1, h1.2, trivial⟩
    · simp only [h1]
      simp only [Bool.and_eq_true, Bool.not_eq_true'] at h1
      refine .inr ?_
      by_cases h2 : p.notices.any Notice.isOverflow = true
      · simp [h1, h2]
      · by_cases h3 : maxOrdinaryNotices ≤ p.notices.length
        · simp [h1, h2, h3]
        · simp [h1, h2, h3]
          omega
  · rename_i hn
    exact .inl ⟨by simpa using hn, rfl⟩

/-- A notice changes nothing of a port but its notices, the acknowledgment state and the offer. -/
theorem Port.enqueue_same (p : Port) (n : Notice) : samePortButNotices p (p.enqueue n) := by
  rcases p.enqueue_cases n with ⟨_, h⟩ | ⟨y, _, ⟨_, _, h⟩ | ⟨_, _, h⟩ | ⟨_, _, _, h⟩ | ⟨_, _, _, h⟩⟩ <;>
    rw [h]
  · exact ⟨rfl, rfl, rfl, rfl, rfl⟩
  · split <;> exact ⟨rfl, rfl, rfl, rfl, rfl⟩
  all_goals exact ⟨rfl, rfl, rfl, rfl, rfl⟩

@[simp] theorem Port.enqueue_inbound (p : Port) (n : Notice) : (p.enqueue n).inbound = p.inbound :=
  (p.enqueue_same n).1

@[simp] theorem Port.enqueue_replies (p : Port) (n : Notice) : (p.enqueue n).replies = p.replies :=
  (p.enqueue_same n).2.1

@[simp] theorem Port.enqueue_admission (p : Port) (n : Notice) :
    (p.enqueue n).admission = p.admission := (p.enqueue_same n).2.2.1

@[simp] theorem Port.enqueue_held (p : Port) (n : Notice) : (p.enqueue n).held = p.held :=
  (p.enqueue_same n).2.2.2.1

@[simp] theorem Port.enqueue_sdo (p : Port) (n : Notice) : (p.enqueue n).sdo = p.sdo :=
  (p.enqueue_same n).2.2.2.2

/-- A posted notice leaves the queue not empty. -/
theorem Port.enqueue_notices_ne_nil (p : Port) (n : Notice) : (p.enqueue n).notices ≠ [] := by
  rcases p.enqueue_cases n with ⟨_, h⟩ | ⟨y, hy, ⟨_, _, h⟩ | ⟨_, _, h⟩ | ⟨_, _, _, h⟩ | ⟨_, _, _, h⟩⟩ <;>
    rw [h] <;> simp
  rintro e
  simp [e] at hy

/-! ### Posting -/

theorem State.post_eq (s : State) (h : HostId) (b : NoticeBody) :
    s.post h b =
      if (s.port h).held then s
      else (s.setPort h ((s.port h).enqueue ⟨b, s.timebase.frame, 1, s.draws⟩)).setDraws
        (s.draws + 1) := rfl

@[simp] theorem State.post_rstN (s : State) (h : HostId) (b : NoticeBody) :
    (s.post h b).rstN = s.rstN := by unfold State.post; split <;> rfl

@[simp] theorem State.post_timebase (s : State) (h : HostId) (b : NoticeBody) :
    (s.post h b).timebase = s.timebase := by unfold State.post; split <;> rfl

@[simp] theorem State.post_rbk (s : State) (h : HostId) (b : NoticeBody) :
    (s.post h b).rbk = s.rbk := by unfold State.post; split <;> rfl

@[simp] theorem State.post_lanes (s : State) (h : HostId) (b : NoticeBody) :
    (s.post h b).lanes = s.lanes := by unfold State.post; split <;> rfl

@[simp] theorem State.post_hosts (s : State) (h : HostId) (b : NoticeBody) :
    (s.post h b).hosts = s.hosts := by unfold State.post; split <;> rfl

@[simp] theorem State.post_jobs (s : State) (h : HostId) (b : NoticeBody) :
    (s.post h b).jobs = s.jobs := by unfold State.post; split <;> rfl

@[simp] theorem State.post_proposal (s : State) (h : HostId) (b : NoticeBody) :
    (s.post h b).proposal = s.proposal := by unfold State.post; split <;> rfl

@[simp] theorem State.post_lastServed (s : State) (h : HostId) (b : NoticeBody) :
    (s.post h b).lastServed = s.lastServed := by unfold State.post; split <;> rfl

@[simp] theorem State.post_pending (s : State) (h : HostId) (b : NoticeBody) :
    (s.post h b).pending = s.pending := by unfold State.post; split <;> rfl

@[simp] theorem State.lane_post (s : State) (h : HostId) (b : NoticeBody) (k : LaneId) :
    (s.post h b).lane k = s.lane k := by unfold State.post; split <;> rfl

@[simp] theorem State.host_post (s : State) (h : HostId) (b : NoticeBody) (k : HostId) :
    (s.post h b).host k = s.host k := by unfold State.post; split <;> rfl

@[simp] theorem State.run_post (s : State) (h : HostId) (b : NoticeBody) (k : HostId) :
    (s.post h b).run k = s.run k := by unfold State.post; split <;> rfl

@[simp] theorem State.book_post (s : State) (h : HostId) (b : NoticeBody) (k : HostId) (c : BookId) :
    (s.post h b).book k c = s.book k c := by unfold State.post; split <;> rfl

theorem State.port_post_ne (s : State) {h g : HostId} (b : NoticeBody) (hg : g ≠ h) :
    (s.post h b).port g = s.port g := by
  unfold State.post
  split <;> simp [hg]

theorem State.port_post_self (s : State) (h : HostId) (b : NoticeBody) :
    (s.post h b).port h =
      if (s.port h).held then s.port h
      else (s.port h).enqueue ⟨b, s.timebase.frame, 1, s.draws⟩ := by
  unfold State.post
  split <;> simp

/-- A post changes of any port only what a notice may change. -/
theorem State.post_same (s : State) (h : HostId) (b : NoticeBody) (g : HostId) :
    samePortButNotices (s.port g) ((s.post h b).port g) := by
  by_cases hg : g = h
  · subst hg
    rw [State.port_post_self]
    split
    · exact ⟨rfl, rfl, rfl, rfl, rfl⟩
    · exact Port.enqueue_same _ _
  · rw [State.port_post_ne _ _ hg]
    exact ⟨rfl, rfl, rfl, rfl, rfl⟩

@[simp] theorem State.postAll_rstN (s : State) (ps : Posts) : (s.postAll ps).rstN = s.rstN := by
  unfold State.postAll
  induction ps generalizing s with
  | nil => rfl
  | cons p ps ih => simp [ih]

@[simp] theorem State.postAll_timebase (s : State) (ps : Posts) : (s.postAll ps).timebase = s.timebase := by
  unfold State.postAll
  induction ps generalizing s with
  | nil => rfl
  | cons p ps ih => simp [ih]

@[simp] theorem State.postAll_rbk (s : State) (ps : Posts) : (s.postAll ps).rbk = s.rbk := by
  unfold State.postAll
  induction ps generalizing s with
  | nil => rfl
  | cons p ps ih => simp [ih]

@[simp] theorem State.postAll_lanes (s : State) (ps : Posts) : (s.postAll ps).lanes = s.lanes := by
  unfold State.postAll
  induction ps generalizing s with
  | nil => rfl
  | cons p ps ih => simp [ih]

@[simp] theorem State.postAll_hosts (s : State) (ps : Posts) : (s.postAll ps).hosts = s.hosts := by
  unfold State.postAll
  induction ps generalizing s with
  | nil => rfl
  | cons p ps ih => simp [ih]

@[simp] theorem State.postAll_jobs (s : State) (ps : Posts) : (s.postAll ps).jobs = s.jobs := by
  unfold State.postAll
  induction ps generalizing s with
  | nil => rfl
  | cons p ps ih => simp [ih]

@[simp] theorem State.postAll_proposal (s : State) (ps : Posts) : (s.postAll ps).proposal = s.proposal := by
  unfold State.postAll
  induction ps generalizing s with
  | nil => rfl
  | cons p ps ih => simp [ih]

@[simp] theorem State.postAll_lastServed (s : State) (ps : Posts) : (s.postAll ps).lastServed = s.lastServed := by
  unfold State.postAll
  induction ps generalizing s with
  | nil => rfl
  | cons p ps ih => simp [ih]

@[simp] theorem State.postAll_pending (s : State) (ps : Posts) : (s.postAll ps).pending = s.pending := by
  unfold State.postAll
  induction ps generalizing s with
  | nil => rfl
  | cons p ps ih => simp [ih]

@[simp] theorem State.lane_postAll (s : State) (ps : Posts) (k : LaneId) :
    (s.postAll ps).lane k = s.lane k := by
  simp [State.lane]

@[simp] theorem State.host_postAll (s : State) (ps : Posts) (k : HostId) :
    (s.postAll ps).host k = s.host k := by
  simp [State.host]

@[simp] theorem State.run_postAll (s : State) (ps : Posts) (k : HostId) :
    (s.postAll ps).run k = s.run k := by
  simp [State.run]

@[simp] theorem State.book_postAll (s : State) (ps : Posts) (k : HostId) (c : BookId) :
    (s.postAll ps).book k c = s.book k c := by
  simp [State.book]

/-- Notices change of any port only what a notice may change. -/
theorem State.postAll_same (s : State) (ps : Posts) (g : HostId) :
    samePortButNotices (s.port g) ((s.postAll ps).port g) := by
  unfold State.postAll
  induction ps generalizing s with
  | nil => exact ⟨rfl, rfl, rfl, rfl, rfl⟩
  | cons p ps ih =>
    have h1 := s.post_same p.1 p.2 g
    have h2 := ih (s.post p.1 p.2)
    exact ⟨h2.1.trans h1.1, h2.2.1.trans h1.2.1, h2.2.2.1.trans h1.2.2.1,
      h2.2.2.2.1.trans h1.2.2.2.1, h2.2.2.2.2.trans h1.2.2.2.2⟩

@[simp] theorem State.postAll_nil (s : State) : s.postAll [] = s := rfl

@[simp] theorem State.postAll_cons (s : State) (p : HostId × NoticeBody) (ps : Posts) :
    s.postAll (p :: ps) = (s.post p.1 p.2).postAll ps := rfl

theorem State.postAll_append (s : State) (ps qs : Posts) :
    s.postAll (ps ++ qs) = (s.postAll ps).postAll qs := List.foldl_append

/-! ### Ports without the model's own numbers -/

theorem plainPort_getLast? (p : Port) :
    (plainPort p).notices.getLast? = p.notices.getLast?.map fun n => { n with draw := 0 } := by
  simp [plainPort]

theorem countDiscarded_plain (n : Notice) :
    Notice.countDiscarded { n with draw := 0 } = { n.countDiscarded with draw := 0 } := by
  rcases n with ⟨b, _, _, _⟩
  cases b <;> rfl

@[simp] theorem plainPort_held (p : Port) : (plainPort p).held = p.held := rfl

/-- Two ports alike but for the numbers stay so when a notice of one body and frame is posted to
both. -/
theorem plainPort_enqueue (p : Port) (n : Notice) :
    plainPort (p.enqueue n) = plainPort ((plainPort p).enqueue { n with draw := 0 }) := by
  have hany : (plainPort p).notices.any Notice.isOverflow = p.notices.any Notice.isOverflow := by
    simp only [plainPort, List.any_map]
    rfl
  have hlen : (plainPort p).notices.length = p.notices.length := by simp [plainPort]
  have hcd : (Notice.countDiscarded ∘ fun n : Notice => { n with draw := 0 }) =
      fun n => { n.countDiscarded with draw := 0 } := funext countDiscarded_plain
  unfold Port.enqueue
  rw [plainPort_getLast?, hany, hlen]
  cases hp : p.notices.getLast? with
  | none => simp [plainPort]
  | some y =>
    simp only [Option.map_some]
    have e1 : Notice.isOverflow { y with draw := 0 } = y.isOverflow := rfl
    rw [e1]
    split
    · split
      · simp [plainPort, Notice.merged, Port.forgetNotice, Function.comp_def]
        rfl
      · simp [plainPort, Notice.merged, Function.comp_def]
    · split
      · simp only [plainPort, List.map_map, hcd]
        simp [Function.comp_def]
      · split <;> simp [plainPort, Notice.overflowFor]

theorem plainPort_idem (p : Port) : plainPort (plainPort p) = plainPort p := by
  simp [plainPort, Function.comp_def]

theorem plainPort_tell (f : Word32) (p : Port) (b : NoticeBody) :
    plainPort (tell f p b) = plainPort (tell f (plainPort p) b) := by
  unfold Safety.tell
  rw [plainPort_held]
  by_cases hp : p.held = true
  · rw [if_pos hp, if_pos hp, plainPort_idem]
  · rw [if_neg hp, if_neg hp]
    exact plainPort_enqueue p ⟨b, f, 1, 0⟩

theorem plainPort_tell_congr (f : Word32) {p q : Port} (b : NoticeBody)
    (h : plainPort p = plainPort q) : plainPort (tell f p b) = plainPort (tell f q b) := by
  rw [plainPort_tell, h, ← plainPort_tell]

theorem plainPort_tellAll_congr (f : Word32) {p q : Port} (bs : List NoticeBody)
    (h : plainPort p = plainPort q) : plainPort (tellAll f p bs) = plainPort (tellAll f q bs) := by
  unfold tellAll
  induction bs generalizing p q with
  | nil => exact h
  | cons b bs ih => exact ih (plainPort_tell_congr f b h)

/-- A port after a post, without the numbers. -/
theorem plainPort_post (s : State) (h : HostId) (b : NoticeBody) (g : HostId) :
    plainPort ((s.post h b).port g) =
      plainPort (if g = h then tell s.timebase.frame (s.port g) b else s.port g) := by
  by_cases hg : g = h
  · subst hg
    rw [State.port_post_self, if_pos rfl, Safety.tell]
    split
    · rfl
    · rw [plainPort_enqueue, plainPort_enqueue (s.port g) ⟨b, s.timebase.frame, 1, 0⟩]
  · rw [State.port_post_ne _ _ hg, if_neg hg]

/-- A port after any list of posts, without the numbers: its own notices in their order. -/
theorem plainPort_postAll (s : State) (ps : Posts) (g : HostId) :
    plainPort ((s.postAll ps).port g) =
      plainPort (tellAll s.timebase.frame (s.port g) ((ps.filter fun p => p.1 == g).map (·.2))) := by
  induction ps generalizing s with
  | nil => rfl
  | cons p ps ih =>
    rw [State.postAll_cons, ih, State.post_timebase]
    rw [plainPort_tellAll_congr _ _ (plainPort_post s p.1 p.2 g)]
    by_cases hg : g = p.1
    · simp [hg, tellAll]
    · simp [hg, tellAll, Ne.symm hg]

/-! ### Replies and the engine -/

@[simp] theorem State.placeReply_rstN (s : State) (h : HostId) (seq code : Byte)
    (o : ReplyCode) (r : Result) : (s.placeReply h seq code o r).rstN = s.rstN := rfl

@[simp] theorem State.placeReply_timebase (s : State) (h : HostId) (seq code : Byte)
    (o : ReplyCode) (r : Result) : (s.placeReply h seq code o r).timebase = s.timebase := rfl

@[simp] theorem State.placeReply_rbk (s : State) (h : HostId) (seq code : Byte)
    (o : ReplyCode) (r : Result) : (s.placeReply h seq code o r).rbk = s.rbk := rfl

@[simp] theorem State.placeReply_lanes (s : State) (h : HostId) (seq code : Byte)
    (o : ReplyCode) (r : Result) : (s.placeReply h seq code o r).lanes = s.lanes := rfl

@[simp] theorem State.placeReply_hosts (s : State) (h : HostId) (seq code : Byte)
    (o : ReplyCode) (r : Result) : (s.placeReply h seq code o r).hosts = s.hosts := rfl

@[simp] theorem State.placeReply_jobs (s : State) (h : HostId) (seq code : Byte)
    (o : ReplyCode) (r : Result) : (s.placeReply h seq code o r).jobs = s.jobs := rfl

@[simp] theorem State.placeReply_proposal (s : State) (h : HostId) (seq code : Byte)
    (o : ReplyCode) (r : Result) : (s.placeReply h seq code o r).proposal = s.proposal := rfl

@[simp] theorem State.placeReply_lastServed (s : State) (h : HostId) (seq code : Byte)
    (o : ReplyCode) (r : Result) : (s.placeReply h seq code o r).lastServed = s.lastServed := rfl

@[simp] theorem State.placeReply_pending (s : State) (h : HostId) (seq code : Byte)
    (o : ReplyCode) (r : Result) : (s.placeReply h seq code o r).pending = s.pending := rfl

theorem State.port_placeReply (s : State) (h g : HostId) (seq code : Byte) (o : ReplyCode)
    (r : Result) :
    (s.placeReply h seq code o r).port g =
      if g = h then
        { s.port h with replies := (s.port h).replies ++ [⟨seq, code, o, r, s.draws⟩] }
      else s.port g := by
  simp [State.placeReply, State.port_setPort]

@[simp] theorem State.popRequest_rstN (s : State) (h : HostId) :
    (s.popRequest h).rstN = s.rstN := rfl

@[simp] theorem State.popRequest_timebase (s : State) (h : HostId) :
    (s.popRequest h).timebase = s.timebase := rfl

@[simp] theorem State.popRequest_rbk (s : State) (h : HostId) :
    (s.popRequest h).rbk = s.rbk := rfl

@[simp] theorem State.popRequest_lanes (s : State) (h : HostId) :
    (s.popRequest h).lanes = s.lanes := rfl

@[simp] theorem State.popRequest_hosts (s : State) (h : HostId) :
    (s.popRequest h).hosts = s.hosts := rfl

@[simp] theorem State.popRequest_jobs (s : State) (h : HostId) :
    (s.popRequest h).jobs = s.jobs := rfl

@[simp] theorem State.popRequest_proposal (s : State) (h : HostId) :
    (s.popRequest h).proposal = s.proposal := rfl

@[simp] theorem State.popRequest_draws (s : State) (h : HostId) :
    (s.popRequest h).draws = s.draws := rfl

@[simp] theorem State.popRequest_pending (s : State) (h : HostId) :
    (s.popRequest h).pending = s.pending := rfl

@[simp] theorem State.lane_popRequest (s : State) (h : HostId) (k : LaneId) :
    (s.popRequest h).lane k = s.lane k := rfl

@[simp] theorem State.host_popRequest (s : State) (h : HostId) (k : HostId) :
    (s.popRequest h).host k = s.host k := rfl

@[simp] theorem State.run_popRequest (s : State) (h : HostId) (k : HostId) :
    (s.popRequest h).run k = s.run k := rfl

@[simp] theorem State.book_popRequest (s : State) (h : HostId) (k : HostId) (c : BookId) :
    (s.popRequest h).book k c = s.book k c := rfl

@[simp] theorem State.popRequest_lastServed (s : State) (h : HostId) :
    (s.popRequest h).lastServed = h := rfl

theorem State.port_popRequest (s : State) (h g : HostId) :
    (s.popRequest h).port g =
      if g = h then { s.port h with inbound := (s.port h).inbound.tail } else s.port g := by
  simp [State.popRequest, State.port_setPort]

/-- Everything the taking of a request can do: it is the engine's next request, which leaves its
queue, is answered, and gets its reply; or it is not, and nothing changes (R168, R169). -/
theorem State.take_eq (s : State) (h : HostId) (seq code : Byte) (payload : List Byte)
    (act : State → Answer) :
    s.take h seq code payload act =
      if s.nextRequest = some (h, ⟨seq, code, payload⟩) then
        (act (s.popRequest h)).state.placeReply h seq code (act (s.popRequest h)).code
          (act (s.popRequest h)).result
      else s := rfl

@[simp] theorem State.refuse_code (s : State) (c : ReplyCode) : (s.refuse c).code = c := rfl
@[simp] theorem State.refuse_result (s : State) (c : ReplyCode) : (s.refuse c).result = .none := rfl
@[simp] theorem State.refuse_state (s : State) (c : ReplyCode) : (s.refuse c).state = s := rfl
@[simp] theorem State.refuseWith_code (s : State) (c : ReplyCode × Result) :
    (s.refuseWith c).code = c.1 := rfl
@[simp] theorem State.refuseWith_result (s : State) (c : ReplyCode × Result) :
    (s.refuseWith c).result = c.2 := rfl
@[simp] theorem State.refuseWith_state (s : State) (c : ReplyCode × Result) :
    (s.refuseWith c).state = s := rfl

/-- The request the engine takes is the oldest of a port that is not held in reset, with RST_n
high. -/
theorem State.nextRequest_some {s : State} {h : HostId} {r : Request}
    (e : s.nextRequest = some (h, r)) :
    s.rstN = true ∧ (s.port h).held = false ∧ (s.port h).inbound.head? = some r := by
  unfold State.nextRequest at e
  split at e
  · rename_i hr
    obtain ⟨g, _, hg⟩ := List.exists_of_findSome?_eq_some e
    split at hg
    · cases hg
    · rename_i hh
      simp only [Option.map_eq_some_iff, Prod.mk.injEq] at hg
      obtain ⟨x, hx, rfl, rfl⟩ := hg
      exact ⟨hr, by simpa using hh, hx⟩
  · cases e

/-- A request that is taken leaves the engine's answer as `requestDone` describes it, given what the
owning block's answer is: the form in which every request's statement can be proved. -/
theorem State.take_requestDone {s : State} {h : HostId} {seq code : Byte} {payload : List Byte}
    {act : State → Answer} {o : ReplyCode} {r : Result} {told : Told} {u : State}
    (next : s.nextRequest = some (h, ⟨seq, code, payload⟩))
    (hc : (act (s.popRequest h)).code = o) (hr : (act (s.popRequest h)).result = r)
    (pins : samePins (s.popRequest h) (act (s.popRequest h)).state)
    (blocks : sameBlocks (act (s.popRequest h)).state u)
    (ports : ∀ g : HostId,
      plainPort ((act (s.popRequest h)).state.port g) =
        plainPort (tellAll s.timebase.frame ((s.popRequest h).port g) (told g))) :
    requestDone s (s.take h seq code payload act) h ⟨seq, code, payload⟩ o r told u := by
  rw [State.take_eq, if_pos next]
  obtain ⟨p1, p2, p3, p4⟩ := pins
  obtain ⟨b1, b2, b3, b4, b5⟩ := blocks
  refine ⟨by simpa using p1, by simpa using p2, by simpa using p4, by simpa using p3,
    ⟨b1, b2, b3, b4, b5⟩, fun g => ?_⟩
  rw [State.port_placeReply]
  have hg := ports g
  rw [State.port_popRequest] at hg
  unfold portAfter
  by_cases e : g = h
  · subst e
    simp only [if_true] at hg ⊢
    have h1 := congrArg Port.replies hg
    have h2 := congrArg (fun p : Port => { p with replies := [] }) hg
    simp only [plainPort, Port.mk.injEq, true_and, hc, hr] at h1 h2 ⊢
    simp_all
  · simp only [if_neg e] at hg ⊢
    exact hg

end Sys2Proof.Machine
end

