-- ==== Sys2Proof/Laws/Lanes.lean ====
section
/-!
SUPPORT. What the operations on one lane do, and what a reaction carried out on one lane leaves
alone.
-/

namespace Sys2Proof.Machine

/-! ### Driving and scheduling -/

/-- A report of a level change sets the pending check of a watched lane and nothing else (R137). -/
theorem Lane.schedule_eq (x : Lane) :
    x.schedule = { x with check := if x.watched then some x.settings.settle else x.check } := by
  unfold Lane.schedule
  split <;> rfl

/-- Driving a lane sets its level and pulse end, and its pending check where a watched lane's level
changes (R20, R137). -/
theorem Lane.drive_eq (x : Lane) (level : Bool) (pulseEnd : Option Nat) :
    x.drive level pulseEnd =
      { x with
        level := level, pulseEnd := pulseEnd
        check := if level ≠ x.level ∧ x.watched = true then some x.settings.settle else x.check } := by
  unfold Lane.drive
  by_cases h : level = x.level
  · simp [h]
  · rw [if_neg h, Lane.schedule_eq]
    simp only [Lane.mk.injEq, true_and]
    simp only [ne_eq, h, not_false_eq_true, true_and]
    rfl

/-- A lane given up is RETIRING, and inactive unless a pulse is running (R25). -/
theorem Lane.retire_eq (x : Lane) :
    x.retire =
      if x.pulseEnd.isNone then
        { x with
          state := .retiring, level := false, pulseEnd := none
          check :=
            if x.level = true ∧ x.watched = true then some x.settings.settle else x.check }
      else { x with state := .retiring } := by
  unfold Lane.retire
  by_cases h : x.pulseEnd.isNone = true
  · rw [if_pos h, if_pos h, Lane.drive_eq]
    cases hl : x.level <;> simp [Lane.watched]
  · rw [if_neg h, if_neg h]

/-- The lane drivers at an arrival touch level, pulse end and pending check alone (R16 to R20). -/
theorem Lane.arrive_eq (x : Lane) (p : Nat) (cues : List Cue) :
    x.arrive p cues =
      { x with
        level := (cues.foldl (fun now c => c.action.driven p now) (x.afterPulseEnd p)).1
        pulseEnd := (cues.foldl (fun now c => c.action.driven p now) (x.afterPulseEnd p)).2
        check :=
          if (cues.foldl (fun now c => c.action.driven p now) (x.afterPulseEnd p)).1 ≠ x.level ∧
              x.watched = true then
            some x.settings.settle
          else x.check } := by
  unfold Lane.arrive
  exact Lane.drive_eq _ _ _

/-! ### Reactions on one lane -/

@[simp] theorem State.reactLane_rstN (s : State) (l : LaneId) (f : Lane → Lane × Posts) :
    (s.reactLane l f).rstN = s.rstN := by simp [State.reactLane]

@[simp] theorem State.reactLane_timebase (s : State) (l : LaneId) (f : Lane → Lane × Posts) :
    (s.reactLane l f).timebase = s.timebase := by simp [State.reactLane]

@[simp] theorem State.reactLane_rbk (s : State) (l : LaneId) (f : Lane → Lane × Posts) :
    (s.reactLane l f).rbk = s.rbk := by simp [State.reactLane]

@[simp] theorem State.reactLane_hosts (s : State) (l : LaneId) (f : Lane → Lane × Posts) :
    (s.reactLane l f).hosts = s.hosts := by simp [State.reactLane]

@[simp] theorem State.reactLane_jobs (s : State) (l : LaneId) (f : Lane → Lane × Posts) :
    (s.reactLane l f).jobs = s.jobs := by simp [State.reactLane]

@[simp] theorem State.reactLane_proposal (s : State) (l : LaneId) (f : Lane → Lane × Posts) :
    (s.reactLane l f).proposal = s.proposal := by simp [State.reactLane]

@[simp] theorem State.reactLane_lastServed (s : State) (l : LaneId) (f : Lane → Lane × Posts) :
    (s.reactLane l f).lastServed = s.lastServed := by simp [State.reactLane]

@[simp] theorem State.reactLane_pending (s : State) (l : LaneId) (f : Lane → Lane × Posts) :
    (s.reactLane l f).pending = s.pending := by simp [State.reactLane]

/-- A reaction on lane `l` changes that lane alone, as its function says. -/
theorem State.lane_reactLane (s : State) (l k : LaneId) (f : Lane → Lane × Posts) :
    (s.reactLane l f).lane k = if k = l then (f (s.lane l)).1 else s.lane k := by
  simp [State.reactLane, State.lane_setLane]

/-- A reaction on one lane changes of any port only what a notice may change. -/
theorem State.reactLane_same (s : State) (l : LaneId) (f : Lane → Lane × Posts) (g : HostId) :
    Safety.samePortButNotices (s.port g) ((s.reactLane l f).port g) :=
  State.postAll_same (s.setLane l (f (s.lane l)).1) _ g

@[simp] theorem State.checkLane_rstN (s : State) (l : LaneId) :
    (s.checkLane l).rstN = s.rstN := by simp [State.checkLane]

@[simp] theorem State.checkLane_timebase (s : State) (l : LaneId) :
    (s.checkLane l).timebase = s.timebase := by simp [State.checkLane]

@[simp] theorem State.checkLane_rbk (s : State) (l : LaneId) :
    (s.checkLane l).rbk = s.rbk := by simp [State.checkLane]

@[simp] theorem State.checkLane_hosts (s : State) (l : LaneId) :
    (s.checkLane l).hosts = s.hosts := by simp [State.checkLane]

@[simp] theorem State.checkLane_jobs (s : State) (l : LaneId) :
    (s.checkLane l).jobs = s.jobs := by simp [State.checkLane]

@[simp] theorem State.checkLane_proposal (s : State) (l : LaneId) :
    (s.checkLane l).proposal = s.proposal := by simp [State.checkLane]

@[simp] theorem State.checkLane_lastServed (s : State) (l : LaneId) :
    (s.checkLane l).lastServed = s.lastServed := by simp [State.checkLane]

@[simp] theorem State.checkLane_pending (s : State) (l : LaneId) :
    (s.checkLane l).pending = s.pending := by simp [State.checkLane]

@[simp] theorem State.boundaryCheck_rstN (s : State) (l : LaneId) :
    (s.boundaryCheck l).rstN = s.rstN := by simp [State.boundaryCheck]

@[simp] theorem State.boundaryCheck_timebase (s : State) (l : LaneId) :
    (s.boundaryCheck l).timebase = s.timebase := by simp [State.boundaryCheck]

@[simp] theorem State.boundaryCheck_rbk (s : State) (l : LaneId) :
    (s.boundaryCheck l).rbk = s.rbk := by simp [State.boundaryCheck]

@[simp] theorem State.boundaryCheck_hosts (s : State) (l : LaneId) :
    (s.boundaryCheck l).hosts = s.hosts := by simp [State.boundaryCheck]

@[simp] theorem State.boundaryCheck_jobs (s : State) (l : LaneId) :
    (s.boundaryCheck l).jobs = s.jobs := by simp [State.boundaryCheck]

@[simp] theorem State.boundaryCheck_proposal (s : State) (l : LaneId) :
    (s.boundaryCheck l).proposal = s.proposal := by simp [State.boundaryCheck]

@[simp] theorem State.boundaryCheck_lastServed (s : State) (l : LaneId) :
    (s.boundaryCheck l).lastServed = s.lastServed := by simp [State.boundaryCheck]

@[simp] theorem State.boundaryCheck_pending (s : State) (l : LaneId) :
    (s.boundaryCheck l).pending = s.pending := by simp [State.boundaryCheck]

@[simp] theorem State.driveLane_rstN (s : State) (l : LaneId) :
    (s.driveLane l).rstN = s.rstN := by simp [State.driveLane]

@[simp] theorem State.driveLane_timebase (s : State) (l : LaneId) :
    (s.driveLane l).timebase = s.timebase := by simp [State.driveLane]

@[simp] theorem State.driveLane_rbk (s : State) (l : LaneId) :
    (s.driveLane l).rbk = s.rbk := by simp [State.driveLane]

@[simp] theorem State.driveLane_hosts (s : State) (l : LaneId) :
    (s.driveLane l).hosts = s.hosts := by simp [State.driveLane]

@[simp] theorem State.driveLane_jobs (s : State) (l : LaneId) :
    (s.driveLane l).jobs = s.jobs := by simp [State.driveLane]

@[simp] theorem State.driveLane_proposal (s : State) (l : LaneId) :
    (s.driveLane l).proposal = s.proposal := by simp [State.driveLane]

@[simp] theorem State.driveLane_lastServed (s : State) (l : LaneId) :
    (s.driveLane l).lastServed = s.lastServed := by simp [State.driveLane]

@[simp] theorem State.driveLane_pending (s : State) (l : LaneId) :
    (s.driveLane l).pending = s.pending := by simp [State.driveLane]

@[simp] theorem State.postNotes_rstN (s : State) (h : HostId) :
    (s.postNotes h).rstN = s.rstN := by simp [State.postNotes]

@[simp] theorem State.postNotes_timebase (s : State) (h : HostId) :
    (s.postNotes h).timebase = s.timebase := by simp [State.postNotes]

@[simp] theorem State.postNotes_rbk (s : State) (h : HostId) :
    (s.postNotes h).rbk = s.rbk := by simp [State.postNotes]

@[simp] theorem State.postNotes_hosts (s : State) (h : HostId) :
    (s.postNotes h).hosts = s.hosts := by simp [State.postNotes]

@[simp] theorem State.postNotes_jobs (s : State) (h : HostId) :
    (s.postNotes h).jobs = s.jobs := by simp [State.postNotes]

@[simp] theorem State.postNotes_proposal (s : State) (h : HostId) :
    (s.postNotes h).proposal = s.proposal := by simp [State.postNotes]

@[simp] theorem State.postNotes_lastServed (s : State) (h : HostId) :
    (s.postNotes h).lastServed = s.lastServed := by simp [State.postNotes]

@[simp] theorem State.postNotes_pending (s : State) (h : HostId) :
    (s.postNotes h).pending = s.pending := by simp [State.postNotes]

@[simp] theorem State.postNotes_lanes (s : State) (h : HostId) :
    (s.postNotes h).lanes = s.lanes := by simp [State.postNotes]

@[simp] theorem State.reactArrival_rstN (due : List LaneId) (s : State) (r : ArrivalReaction) :
    (State.reactArrival due s r).rstN = s.rstN := by
  cases r <;> simp only [State.reactArrival] <;> first | simp | (split <;> simp)

@[simp] theorem State.reactArrival_timebase (due : List LaneId) (s : State) (r : ArrivalReaction) :
    (State.reactArrival due s r).timebase = s.timebase := by
  cases r <;> simp only [State.reactArrival] <;> first | simp | (split <;> simp)

@[simp] theorem State.reactArrival_rbk (due : List LaneId) (s : State) (r : ArrivalReaction) :
    (State.reactArrival due s r).rbk = s.rbk := by
  cases r <;> simp only [State.reactArrival] <;> first | simp | (split <;> simp)

@[simp] theorem State.reactArrival_hosts (due : List LaneId) (s : State) (r : ArrivalReaction) :
    (State.reactArrival due s r).hosts = s.hosts := by
  cases r <;> simp only [State.reactArrival] <;> first | simp | (split <;> simp)

@[simp] theorem State.reactArrival_jobs (due : List LaneId) (s : State) (r : ArrivalReaction) :
    (State.reactArrival due s r).jobs = s.jobs := by
  cases r <;> simp only [State.reactArrival] <;> first | simp | (split <;> simp)

@[simp] theorem State.reactArrival_proposal (due : List LaneId) (s : State) (r : ArrivalReaction) :
    (State.reactArrival due s r).proposal = s.proposal := by
  cases r <;> simp only [State.reactArrival] <;> first | simp | (split <;> simp)

@[simp] theorem State.reactArrival_lastServed (due : List LaneId) (s : State) (r : ArrivalReaction) :
    (State.reactArrival due s r).lastServed = s.lastServed := by
  cases r <;> simp only [State.reactArrival] <;> first | simp | (split <;> simp)

@[simp] theorem State.reactArrival_pending (due : List LaneId) (s : State) (r : ArrivalReaction) :
    (State.reactArrival due s r).pending = s.pending := by
  cases r <;> simp only [State.reactArrival] <;> first | simp | (split <;> simp)

/-- What every step of a fold keeps, the fold keeps. -/
theorem foldl_keeps {α β : Type} (f : α → β → α) (P : α → Prop) (h : ∀ a b, P a → P (f a b))
    (bs : List β) (a : α) (ha : P a) : P (bs.foldl f a) := by
  induction bs generalizing a with
  | nil => exact ha
  | cons b bs ih => exact ih _ (h _ _ ha)

@[simp] theorem State.arrive_rstN (s : State) (i : ArrivalIn) : (s.arrive i).rstN = s.rstN :=
  foldl_keeps _ (fun t : State => t.rstN = s.rstN) (fun _ _ h => by simp [h]) _ _ rfl

@[simp] theorem State.arrive_timebase (s : State) (i : ArrivalIn) : (s.arrive i).timebase = s.timebase :=
  foldl_keeps _ (fun t : State => t.timebase = s.timebase) (fun _ _ h => by simp [h]) _ _ rfl

@[simp] theorem State.arrive_hosts (s : State) (i : ArrivalIn) : (s.arrive i).hosts = s.hosts :=
  foldl_keeps _ (fun t : State => t.hosts = s.hosts) (fun _ _ h => by simp [h]) _ _ rfl

@[simp] theorem State.arrive_jobs (s : State) (i : ArrivalIn) : (s.arrive i).jobs = s.jobs :=
  foldl_keeps _ (fun t : State => t.jobs = s.jobs) (fun _ _ h => by simp [h]) _ _ rfl

@[simp] theorem State.arrive_proposal (s : State) (i : ArrivalIn) : (s.arrive i).proposal = s.proposal :=
  foldl_keeps _ (fun t : State => t.proposal = s.proposal) (fun _ _ h => by simp [h]) _ _ rfl

@[simp] theorem State.arrive_lastServed (s : State) (i : ArrivalIn) : (s.arrive i).lastServed = s.lastServed :=
  foldl_keeps _ (fun t : State => t.lastServed = s.lastServed) (fun _ _ h => by simp [h]) _ _ rfl

@[simp] theorem State.arrive_pending (s : State) (i : ArrivalIn) : (s.arrive i).pending = s.pending :=
  foldl_keeps _ (fun t : State => t.pending = s.pending) (fun _ _ h => by simp [h]) _ _ rfl

@[simp] theorem State.arrive_rbk (s : State) (i : ArrivalIn) : (s.arrive i).rbk = i.rbk :=
  foldl_keeps _ (fun t : State => t.rbk = i.rbk) (fun _ _ h => by simp [h]) _ _ rfl

/-! ### Orders -/

/-- An order of reactions takes each of them. -/
@[simp] theorem mem_inOrder {α : Type} [DecidableEq α] (a : α) (p all : List α) :
    a ∈ inOrder p all ↔ a ∈ all := by
  simp only [inOrder, List.mem_append, List.mem_eraseDups, List.mem_filter, decide_eq_true_eq]
  by_cases h : a ∈ p <;> simp [h]

/-- A list without its repeats has none. -/
theorem nodup_eraseDups {α : Type} [DecidableEq α] (as : List α) : as.eraseDups.Nodup := by
  induction h : as.length using Nat.strong_induction_on generalizing as with
  | _ n ih =>
    cases as with
    | nil => simp
    | cons a as =>
      rw [List.eraseDups_cons, List.nodup_cons]
      refine ⟨by simp, ih _ ?_ _ rfl⟩
      rw [← h]
      exact Nat.lt_succ_of_le (List.length_filter_le _ _)

/-- An order of reactions takes none of them twice. -/
theorem nodup_inOrder {α : Type} [DecidableEq α] (p all : List α) (h : all.Nodup) :
    (inOrder p all).Nodup := by
  refine List.Nodup.append ?_ (h.filter _) ?_
  · exact nodup_eraseDups _
  · intro a ha hb
    simp only [List.mem_eraseDups, List.mem_filter, decide_eq_true_eq] at ha hb
    exact hb.2 ha.1

end Sys2Proof.Machine
end

