-- ==== Sys2Proof/Laws/Ordering.lean ====
section
/-!
SUPPORT. Ordering a list: it keeps every element, and puts them in the order asked for.
-/

namespace Sys2Proof.Machine

variable {α : Type} (before : α → α → Bool)

/-- An insertion adds the element and keeps the others. -/
theorem insertBefore_perm (a : α) (bs : List α) : (insertBefore before a bs).Perm (a :: bs) := by
  induction bs with
  | nil => exact List.Perm.refl _
  | cons b bs ih =>
    unfold insertBefore
    split
    · exact List.Perm.refl _
    · exact (ih.cons b).trans (List.Perm.swap a b bs)

/-- Ordering keeps every element. -/
theorem orderBy_perm (as : List α) : (orderBy before as).Perm as := by
  induction as with
  | nil => exact List.Perm.refl _
  | cons a as ih => exact (insertBefore_perm before a _).trans (ih.cons a)

/-- An insertion into an ordered list leaves it ordered, where the order is total and transitive. -/
theorem insertBefore_pairwise (total : ∀ a b, before a b = true ∨ before b a = true)
    (trans : ∀ a b c, before a b = true → before b c = true → before a c = true) (a : α)
    (bs : List α) (h : bs.Pairwise fun x y => before x y = true) :
    (insertBefore before a bs).Pairwise fun x y => before x y = true := by
  induction bs with
  | nil => simp [insertBefore]
  | cons b bs ih =>
    rw [List.pairwise_cons] at h
    unfold insertBefore
    split
    · rename_i hab
      refine List.pairwise_cons.2 ⟨fun x hx => ?_, List.pairwise_cons.2 h⟩
      rcases List.mem_cons.1 hx with rfl | hx
      · exact hab
      · exact trans _ _ _ hab (h.1 x hx)
    · rename_i hab
      refine List.pairwise_cons.2 ⟨fun x hx => ?_, ih h.2⟩
      rcases List.mem_cons.1 ((insertBefore_perm before a bs).mem_iff.1 hx) with rfl | hx
      · exact (total b x).resolve_right (by simpa using hab)
      · exact h.1 x hx

/-- Ordering leaves the list ordered, where the order is total and transitive. -/
theorem orderBy_pairwise (total : ∀ a b, before a b = true ∨ before b a = true)
    (trans : ∀ a b c, before a b = true → before b c = true → before a c = true) (as : List α) :
    (orderBy before as).Pairwise fun x y => before x y = true := by
  induction as with
  | nil => simp [orderBy]
  | cons a as ih => exact insertBefore_pairwise before total trans a _ ih

end Sys2Proof.Machine
end

