-- ==== Sys2Proof/Laws/Reactions.lean ====
section
/-!
SUPPORT. What the reactions to a boundary, the demotions and the moments of a transaction leave alone.
-/

namespace Sys2Proof.Machine

open Sys2Proof.Safety

/-! ### Host records -/

@[simp] theorem State.loadBoundary_rstN (s : State) (h : HostId) :
    (s.loadBoundary h).rstN = s.rstN := by
  unfold State.loadBoundary; split
  · rfl
  · split <;> simp

@[simp] theorem State.loadBoundary_timebase (s : State) (h : HostId) :
    (s.loadBoundary h).timebase = s.timebase := by
  unfold State.loadBoundary; split
  · rfl
  · split <;> simp

@[simp] theorem State.loadBoundary_rbk (s : State) (h : HostId) :
    (s.loadBoundary h).rbk = s.rbk := by
  unfold State.loadBoundary; split
  · rfl
  · split <;> simp

@[simp] theorem State.loadBoundary_lanes (s : State) (h : HostId) :
    (s.loadBoundary h).lanes = s.lanes := by
  unfold State.loadBoundary; split
  · rfl
  · split <;> simp

@[simp] theorem State.loadBoundary_jobs (s : State) (h : HostId) :
    (s.loadBoundary h).jobs = s.jobs := by
  unfold State.loadBoundary; split
  · rfl
  · split <;> simp

@[simp] theorem State.loadBoundary_proposal (s : State) (h : HostId) :
    (s.loadBoundary h).proposal = s.proposal := by
  unfold State.loadBoundary; split
  · rfl
  · split <;> simp

@[simp] theorem State.loadBoundary_lastServed (s : State) (h : HostId) :
    (s.loadBoundary h).lastServed = s.lastServed := by
  unfold State.loadBoundary; split
  · rfl
  · split <;> simp

@[simp] theorem State.loadBoundary_pending (s : State) (h : HostId) :
    (s.loadBoundary h).pending = s.pending := by
  unfold State.loadBoundary; split
  · rfl
  · split <;> simp

@[simp] theorem State.carrySwap_rstN (s : State) (h : HostId) (b : BookId) :
    (s.carrySwap h b).rstN = s.rstN := by
  unfold State.carrySwap
  simp only [State.setRun, State.moveBook, State.setBook]
  split <;> simp

@[simp] theorem State.carryHalt_rstN (s : State) (h : HostId) (a : BookId) :
    (s.carryHalt h a).rstN = s.rstN := by
  simp [State.carryHalt, State.setRun, State.moveBook, State.setBook]

@[simp] theorem State.takeTurn_rstN (s : State) (h : HostId) (a : BookId) :
    (s.takeTurn h a).rstN = s.rstN := by
  unfold State.takeTurn
  dsimp only
  split <;> simp [State.setRun, State.moveBook, State.setBook]

@[simp] theorem State.runBoundary_rstN (s : State) (h : HostId) :
    (s.runBoundary h).rstN = s.rstN := by
  unfold State.runBoundary
  dsimp only
  split
  · simp
  · simp
  · split
    · simp
    · simp [State.setRun]
  · rfl

@[simp] theorem State.carrySwap_timebase (s : State) (h : HostId) (b : BookId) :
    (s.carrySwap h b).timebase = s.timebase := by
  unfold State.carrySwap
  simp only [State.setRun, State.moveBook, State.setBook]
  split <;> simp

@[simp] theorem State.carryHalt_timebase (s : State) (h : HostId) (a : BookId) :
    (s.carryHalt h a).timebase = s.timebase := by
  simp [State.carryHalt, State.setRun, State.moveBook, State.setBook]

@[simp] theorem State.takeTurn_timebase (s : State) (h : HostId) (a : BookId) :
    (s.takeTurn h a).timebase = s.timebase := by
  unfold State.takeTurn
  dsimp only
  split <;> simp [State.setRun, State.moveBook, State.setBook]

@[simp] theorem State.runBoundary_timebase (s : State) (h : HostId) :
    (s.runBoundary h).timebase = s.timebase := by
  unfold State.runBoundary
  dsimp only
  split
  · simp
  · simp
  · split
    · simp
    · simp [State.setRun]
  · rfl

@[simp] theorem State.carrySwap_rbk (s : State) (h : HostId) (b : BookId) :
    (s.carrySwap h b).rbk = s.rbk := by
  unfold State.carrySwap
  simp only [State.setRun, State.moveBook, State.setBook]
  split <;> simp

@[simp] theorem State.carryHalt_rbk (s : State) (h : HostId) (a : BookId) :
    (s.carryHalt h a).rbk = s.rbk := by
  simp [State.carryHalt, State.setRun, State.moveBook, State.setBook]

@[simp] theorem State.takeTurn_rbk (s : State) (h : HostId) (a : BookId) :
    (s.takeTurn h a).rbk = s.rbk := by
  unfold State.takeTurn
  dsimp only
  split <;> simp [State.setRun, State.moveBook, State.setBook]

@[simp] theorem State.runBoundary_rbk (s : State) (h : HostId) :
    (s.runBoundary h).rbk = s.rbk := by
  unfold State.runBoundary
  dsimp only
  split
  · simp
  · simp
  · split
    · simp
    · simp [State.setRun]
  · rfl

@[simp] theorem State.carrySwap_lanes (s : State) (h : HostId) (b : BookId) :
    (s.carrySwap h b).lanes = s.lanes := by
  unfold State.carrySwap
  simp only [State.setRun, State.moveBook, State.setBook]
  split <;> simp

@[simp] theorem State.carryHalt_lanes (s : State) (h : HostId) (a : BookId) :
    (s.carryHalt h a).lanes = s.lanes := by
  simp [State.carryHalt, State.setRun, State.moveBook, State.setBook]

@[simp] theorem State.takeTurn_lanes (s : State) (h : HostId) (a : BookId) :
    (s.takeTurn h a).lanes = s.lanes := by
  unfold State.takeTurn
  dsimp only
  split <;> simp [State.setRun, State.moveBook, State.setBook]

@[simp] theorem State.runBoundary_lanes (s : State) (h : HostId) :
    (s.runBoundary h).lanes = s.lanes := by
  unfold State.runBoundary
  dsimp only
  split
  · simp
  · simp
  · split
    · simp
    · simp [State.setRun]
  · rfl

@[simp] theorem State.carrySwap_jobs (s : State) (h : HostId) (b : BookId) :
    (s.carrySwap h b).jobs = s.jobs := by
  unfold State.carrySwap
  simp only [State.setRun, State.moveBook, State.setBook]
  split <;> simp

@[simp] theorem State.carryHalt_jobs (s : State) (h : HostId) (a : BookId) :
    (s.carryHalt h a).jobs = s.jobs := by
  simp [State.carryHalt, State.setRun, State.moveBook, State.setBook]

@[simp] theorem State.takeTurn_jobs (s : State) (h : HostId) (a : BookId) :
    (s.takeTurn h a).jobs = s.jobs := by
  unfold State.takeTurn
  dsimp only
  split <;> simp [State.setRun, State.moveBook, State.setBook]

@[simp] theorem State.runBoundary_jobs (s : State) (h : HostId) :
    (s.runBoundary h).jobs = s.jobs := by
  unfold State.runBoundary
  dsimp only
  split
  · simp
  · simp
  · split
    · simp
    · simp [State.setRun]
  · rfl

@[simp] theorem State.carrySwap_proposal (s : State) (h : HostId) (b : BookId) :
    (s.carrySwap h b).proposal = s.proposal := by
  unfold State.carrySwap
  simp only [State.setRun, State.moveBook, State.setBook]
  split <;> simp

@[simp] theorem State.carryHalt_proposal (s : State) (h : HostId) (a : BookId) :
    (s.carryHalt h a).proposal = s.proposal := by
  simp [State.carryHalt, State.setRun, State.moveBook, State.setBook]

@[simp] theorem State.takeTurn_proposal (s : State) (h : HostId) (a : BookId) :
    (s.takeTurn h a).proposal = s.proposal := by
  unfold State.takeTurn
  dsimp only
  split <;> simp [State.setRun, State.moveBook, State.setBook]

@[simp] theorem State.runBoundary_proposal (s : State) (h : HostId) :
    (s.runBoundary h).proposal = s.proposal := by
  unfold State.runBoundary
  dsimp only
  split
  · simp
  · simp
  · split
    · simp
    · simp [State.setRun]
  · rfl

@[simp] theorem State.carrySwap_lastServed (s : State) (h : HostId) (b : BookId) :
    (s.carrySwap h b).lastServed = s.lastServed := by
  unfold State.carrySwap
  simp only [State.setRun, State.moveBook, State.setBook]
  split <;> simp

@[simp] theorem State.carryHalt_lastServed (s : State) (h : HostId) (a : BookId) :
    (s.carryHalt h a).lastServed = s.lastServed := by
  simp [State.carryHalt, State.setRun, State.moveBook, State.setBook]

@[simp] theorem State.takeTurn_lastServed (s : State) (h : HostId) (a : BookId) :
    (s.takeTurn h a).lastServed = s.lastServed := by
  unfold State.takeTurn
  dsimp only
  split <;> simp [State.setRun, State.moveBook, State.setBook]

@[simp] theorem State.runBoundary_lastServed (s : State) (h : HostId) :
    (s.runBoundary h).lastServed = s.lastServed := by
  unfold State.runBoundary
  dsimp only
  split
  · simp
  · simp
  · split
    · simp
    · simp [State.setRun]
  · rfl

@[simp] theorem State.carrySwap_pending (s : State) (h : HostId) (b : BookId) :
    (s.carrySwap h b).pending = s.pending := by
  unfold State.carrySwap
  simp only [State.setRun, State.moveBook, State.setBook]
  split <;> simp

@[simp] theorem State.carryHalt_pending (s : State) (h : HostId) (a : BookId) :
    (s.carryHalt h a).pending = s.pending := by
  simp [State.carryHalt, State.setRun, State.moveBook, State.setBook]

@[simp] theorem State.takeTurn_pending (s : State) (h : HostId) (a : BookId) :
    (s.takeTurn h a).pending = s.pending := by
  unfold State.takeTurn
  dsimp only
  split <;> simp [State.setRun, State.moveBook, State.setBook]

@[simp] theorem State.runBoundary_pending (s : State) (h : HostId) :
    (s.runBoundary h).pending = s.pending := by
  unfold State.runBoundary
  dsimp only
  split
  · simp
  · simp
  · split
    · simp
    · simp [State.setRun]
  · rfl

@[simp] theorem State.demote_rstN (s : State) (h : HostId) (b : BookId) :
    (s.demote h b).rstN = s.rstN := by simp [State.demote]

@[simp] theorem State.demote_timebase (s : State) (h : HostId) (b : BookId) :
    (s.demote h b).timebase = s.timebase := by simp [State.demote]

@[simp] theorem State.demote_rbk (s : State) (h : HostId) (b : BookId) :
    (s.demote h b).rbk = s.rbk := by simp [State.demote]

@[simp] theorem State.demote_lanes (s : State) (h : HostId) (b : BookId) :
    (s.demote h b).lanes = s.lanes := by simp [State.demote]

@[simp] theorem State.demote_jobs (s : State) (h : HostId) (b : BookId) :
    (s.demote h b).jobs = s.jobs := by simp [State.demote]

@[simp] theorem State.demote_proposal (s : State) (h : HostId) (b : BookId) :
    (s.demote h b).proposal = s.proposal := by simp [State.demote]

@[simp] theorem State.demote_lastServed (s : State) (h : HostId) (b : BookId) :
    (s.demote h b).lastServed = s.lastServed := by simp [State.demote]

@[simp] theorem State.demote_pending (s : State) (h : HostId) (b : BookId) :
    (s.demote h b).pending = s.pending := by simp [State.demote]

@[simp] theorem State.demoteWhere_rstN (s : State) (p : HostId → BookId → Book → Bool) :
    (s.demoteWhere p).rstN = s.rstN :=
  foldl_keeps _ (fun t : State => t.rstN = s.rstN) (fun t x h => by split <;> simp [h]) _ _ rfl

@[simp] theorem State.demoteWhere_timebase (s : State) (p : HostId → BookId → Book → Bool) :
    (s.demoteWhere p).timebase = s.timebase :=
  foldl_keeps _ (fun t : State => t.timebase = s.timebase) (fun t x h => by split <;> simp [h]) _ _ rfl

@[simp] theorem State.demoteWhere_rbk (s : State) (p : HostId → BookId → Book → Bool) :
    (s.demoteWhere p).rbk = s.rbk :=
  foldl_keeps _ (fun t : State => t.rbk = s.rbk) (fun t x h => by split <;> simp [h]) _ _ rfl

@[simp] theorem State.demoteWhere_lanes (s : State) (p : HostId → BookId → Book → Bool) :
    (s.demoteWhere p).lanes = s.lanes :=
  foldl_keeps _ (fun t : State => t.lanes = s.lanes) (fun t x h => by split <;> simp [h]) _ _ rfl

@[simp] theorem State.demoteWhere_jobs (s : State) (p : HostId → BookId → Book → Bool) :
    (s.demoteWhere p).jobs = s.jobs :=
  foldl_keeps _ (fun t : State => t.jobs = s.jobs) (fun t x h => by split <;> simp [h]) _ _ rfl

@[simp] theorem State.demoteWhere_proposal (s : State) (p : HostId → BookId → Book → Bool) :
    (s.demoteWhere p).proposal = s.proposal :=
  foldl_keeps _ (fun t : State => t.proposal = s.proposal) (fun t x h => by split <;> simp [h]) _ _ rfl

@[simp] theorem State.demoteWhere_lastServed (s : State) (p : HostId → BookId → Book → Bool) :
    (s.demoteWhere p).lastServed = s.lastServed :=
  foldl_keeps _ (fun t : State => t.lastServed = s.lastServed) (fun t x h => by split <;> simp [h]) _ _ rfl

@[simp] theorem State.demoteWhere_pending (s : State) (p : HostId → BookId → Book → Bool) :
    (s.demoteWhere p).pending = s.pending :=
  foldl_keeps _ (fun t : State => t.pending = s.pending) (fun t x h => by split <;> simp [h]) _ _ rfl

/-- A demotion changes of any port only what a notice may change. -/
theorem State.demote_same (s : State) (h : HostId) (b : BookId) (g : HostId) :
    samePortButNotices (s.port g) ((s.demote h b).port g) := by
  unfold State.demote
  exact State.post_same _ _ _ _

theorem samePortButNotices_trans {p q r : Port} (h1 : samePortButNotices p q)
    (h2 : samePortButNotices q r) : samePortButNotices p r :=
  ⟨h2.1.trans h1.1, h2.2.1.trans h1.2.1, h2.2.2.1.trans h1.2.2.1, h2.2.2.2.1.trans h1.2.2.2.1,
    h2.2.2.2.2.trans h1.2.2.2.2⟩

/-- Demotions change of any port only what a notice may change. -/
theorem State.demoteWhere_same (s : State) (p : HostId → BookId → Book → Bool) (g : HostId) :
    samePortButNotices (s.port g) ((s.demoteWhere p).port g) :=
  foldl_keeps _ (fun t : State => samePortButNotices (s.port g) (t.port g))
    (fun t x h => by
      split
      · exact samePortButNotices_trans h (State.demote_same t _ _ g)
      · exact h) _ _ ⟨rfl, rfl, rfl, rfl, rfl⟩

/-- The host record of a host after one of its books has been demoted (R104, R154). -/
theorem State.host_demote (s : State) (h g : HostId) (b : BookId) :
    (s.demote h b).host g =
      if g = h then
        ((s.host h).setBook b ((s.host h).book b).demoted).setRun
          (if ((s.host h).book b).state = .pending then { (s.host h).run with action := .none }
          else (s.host h).run)
      else s.host g := by
  simp [State.demote, State.host_setHost]

/-! ### The order of the reactions to a boundary -/

/-- Whatever order is preferred, every reaction is taken. -/
@[simp] theorem State.mem_boundaryOrder (s : State) (p : List BoundaryReaction)
    (r : BoundaryReaction) : r ∈ s.boundaryOrder p ↔ r ∈ everyBoundaryReaction := by
  unfold State.boundaryOrder
  dsimp only
  split <;> simp

/-- No reaction to a boundary is listed twice. -/
theorem nodup_everyBoundaryReaction : everyBoundaryReaction.Nodup := by decide +kernel

/-- Whatever order is preferred, no reaction is taken twice. -/
theorem State.nodup_boundaryOrder (s : State) (p : List BoundaryReaction) :
    (s.boundaryOrder p).Nodup := by
  unfold State.boundaryOrder
  dsimp only
  split
  · exact nodup_inOrder _ _ nodup_everyBoundaryReaction
  · exact nodup_everyBoundaryReaction

/-- The lane of a reaction of the lane table or the monitor. -/
def reactionLane : BoundaryReaction → Option LaneId
  | .lane l => some l
  | .check l => some l
  | _ => none

/-- A reaction on one lane posts notices about that lane alone. -/
theorem State.laneReaction_lane (s : State) (r : BoundaryReaction) :
    ∀ x ∈ (s.laneReaction r).2, reactionLane r = some x.1 := by
  cases r <;> simp [State.laneReaction, reactionLane, eq_comm] <;> intros <;> assumption

/-- The notices of reactions taken lane by lane are in lane order. -/
theorem State.laneNotices_ordered (order : List BoundaryReaction)
    (h : order.Pairwise fun r q =>
      ∀ l ∈ reactionLane r, ∀ k ∈ reactionLane q, l ≤ k) (s : State) :
    (∀ x ∈ s.laneNotices order, ∃ r ∈ order, reactionLane r = some x.1) ∧
      (s.laneNotices order).Pairwise fun a b => a.1 ≤ b.1 := by
  induction order generalizing s with
  | nil => simp [State.laneNotices]
  | cons r rs ih =>
    rw [List.pairwise_cons] at h
    obtain ⟨mem, ord⟩ := ih h.2 (s.laneReaction r).1
    have now : ∀ x ∈ (s.laneReaction r).2.filter (fun x => !(s.port x.2).held),
        reactionLane r = some x.1 :=
      fun x hx => s.laneReaction_lane r x (List.mem_of_mem_filter hx)
    constructor
    · intro x hx
      rcases List.mem_append.1 hx with hx | hx
      · exact ⟨r, List.mem_cons_self, now x hx⟩
      · obtain ⟨q, hq, e⟩ := mem x hx
        exact ⟨q, List.mem_cons_of_mem _ hq, e⟩
    · refine List.pairwise_append.2 ⟨?_, ord, fun a ha b hb => ?_⟩
      · exact List.pairwise_of_forall_mem_list fun a ha b hb =>
          le_of_eq (Option.some.inj ((now a ha).symm.trans (now b hb)))
      · obtain ⟨q, hq, e⟩ := mem b hb
        exact h.1 q hq _ (now a ha) _ e

/-- Lane by lane and then block by block is an order in which the reactions can be taken. -/
theorem State.orderAllowed_every (s : State) : s.orderAllowed everyBoundaryReaction = true := by
  have ordered := (State.laneNotices_ordered everyBoundaryReaction (by decide +kernel) s).2
  have tables : lanesBeforeAgreement everyBoundaryReaction = true := by decide +kernel
  simp only [State.orderAllowed, laneOrdered, tables, Bool.or_true, Bool.and_true,
    decide_eq_true_eq]
  exact ordered.imp fun {a b} (h : a.1 ≤ b.1) (_ : a.2 = b.2) => h

/-- The reactions are taken in an order in which they can be (R147, R175). -/
theorem State.orderAllowed_boundaryOrder (s : State) (p : List BoundaryReaction) :
    s.orderAllowed (s.boundaryOrder p) = true := by
  unfold State.boundaryOrder
  dsimp only
  split
  · assumption
  · exact s.orderAllowed_every

/-- With an OPEN record the lane table reacts on every lane before the agreement unit (R147). -/
theorem State.lanesBeforeAgreement_boundaryOrder (s : State) (p : List BoundaryReaction)
    (h : s.proposal.map (·.state) = some .opened) :
    lanesBeforeAgreement (s.boundaryOrder p) = true := by
  have ok := s.orderAllowed_boundaryOrder p
  unfold State.orderAllowed at ok
  rw [h] at ok
  exact (Bool.and_eq_true_iff.1 ok).2

/-- What every reaction keeps, a boundary keeps. -/
theorem State.crossBoundary_keeps (s : State) (b : BoundaryIn) (P : Crossing → Prop)
    (step : ∀ c r, P c → P (c.react r)) (start : P ⟨s.setRbk b.rbk, false, []⟩) :
    ∃ c, P c ∧ s.crossBoundary b = c.state :=
  ⟨_, foldl_keeps _ P step _ _ start, rfl⟩

/-! ### Transactions -/

/-- A valid ACK removes the named message and nothing else (R163). -/
theorem Port.acknowledge_eq (p : Port) : p.acknowledge = acked p := by
  unfold Port.acknowledge acked
  cases p.ack <;> simp

/-- All that abandoning a transaction does: a link the port had not taken up stays, and of one it had,
the first `sent` bytes of its return frame are what is shown (R171, R173). -/
theorem Link.abandon_abandons (x : Link) (sent : Nat) : abandons sent x (x.abandon sent) := by
  cases x <;> simp [abandons, Link.abandon, takenUp, fixedBytes, chosenIn]

/-- A moment of a transaction other than the end of a PORT RESET touches its own port alone. -/
theorem State.transaction_port_ne (s : State) (h g : HostId) (part : TxnPart) (bytes : List Byte)
    (first : Bool) (hg : g ≠ h)
    (hk : part = .finish →
      ∀ f n, ((s.port h).catchUp s.rstN bytes).link ≠ .offering .portReset f n) :
    (s.transaction h part bytes first).port g = s.port g := by
  cases part with
  | select => simp [State.transaction, hg]
  | control => simp [State.transaction, hg]
  | finish =>
    simp only [State.transaction, State.endTransaction, State.port_setPort_self]
    split
    · simp [hg]
    · simp [hg]
    · simp [hg]
    · rename_i k f n e
      split
      · simp [hg]
      · cases k with
        | null => simp [hg]
        | request => simp [hg]
        | portReset => exact absurd e (hk rfl f n)

end Sys2Proof.Machine
end

