-- ==== Sys2Proof/WellFormed.lean ====
section
/-!
DEFINITION. Which commands are well formed: the operands that spell the event the row names.
The meanings are total; an ill-formed command is no event of its row's kind, and does what its
operands say (notes/assumptions/2.md).
-/

namespace Sys2Proof

/-- The longest payload of a request frame (10.7). -/
def maxPayload : Nat := 48

/-- The bytes of a complete transaction in each direction (R160). -/
def transactionBytes : Nat := 56

/-- The request codes that name a request (10.7). -/
def requestCodes : List Byte :=
  [0x01, 0x02, 0x03, 0x04, 0x05, 0x06, 0x07, 0x08, 0x09, 0x0A, 0x10, 0x11, 0x12, 0x13, 0x14,
   0x18, 0x19, 0x1A, 0x1C, 0x1D, 0x20, 0x21, 0x22, 0x23, 0x28, 0x29, 0x2A]

/-- The bytes of a transaction begin with a valid control byte of kind `kind` (R162). -/
def hasControl (kind : Byte) : List Byte → Bool
  | b0 :: b1 :: _ => b1 == ~~~b0 && b0 &&& 3 == kind
  | _ => false

/-- The bytes of a transaction that carries no request: kind NULL, the fourth kind code, or an
invalid control byte (R162). -/
def carriesNoRequest : List Byte → Bool
  | b0 :: b1 :: _ => b1 != ~~~b0 || b0 &&& 3 == 0 || b0 &&& 3 == 3
  | _ => false

/-- An order of arrival reactions names none twice. -/
def ArrivalIn.wellFormed (i : ArrivalIn) : Bool := decide i.order.Nodup

/-- An order of boundary reactions names none twice. -/
def BoundaryIn.wellFormed (b : BoundaryIn) : Bool := decide b.order.Nodup && b.start.wellFormed

/-- The well-formed commands. -/
def Instr.wellFormed : Instr → Bool
  | .arrival i => i.wellFormed
  | .frameBoundary b => b.wellFormed
  | .pulseEnd _ b => b.wellFormed
  | .readbackCheck _ b => b.wellFormed
  | .offerExpiry _ b => b.wellFormed
  | .loadIdleTimeout _ b => b.wellFormed
  | .alternationTurn _ b => b.wellFormed
  | .proposalExpiry b => b.wellFormed
  | .compileCompletion => true
  | .status _ _ payload => payload.length ≤ maxPayload
  | .claim _ _ payload => payload.length ≤ maxPayload
  | .release _ _ payload => payload.length ≤ maxPayload
  | .laneSet _ _ payload => payload.length ≤ maxPayload
  | .laneQuery _ _ payload => payload.length ≤ maxPayload
  | .offer _ _ payload => payload.length ≤ maxPayload
  | .withdraw _ _ payload => payload.length ≤ maxPayload
  | .decline _ _ payload => payload.length ≤ maxPayload
  | .accept _ _ payload => payload.length ≤ maxPayload
  | .faultClear _ _ payload => payload.length ≤ maxPayload
  | .cuePut _ _ payload => payload.length ≤ maxPayload
  | .cueDrop _ _ payload => payload.length ≤ maxPayload
  | .bookClear _ _ payload => payload.length ≤ maxPayload
  | .bookCopy _ _ payload => payload.length ≤ maxPayload
  | .bookRead _ _ payload => payload.length ≤ maxPayload
  | .loadOpen _ _ payload => payload.length ≤ maxPayload
  | .loadCues _ _ payload => payload.length ≤ maxPayload
  | .loadCancel _ _ payload => payload.length ≤ maxPayload
  | .compile _ _ payload => payload.length ≤ maxPayload
  | .compileAbort _ _ payload => payload.length ≤ maxPayload
  | .swap _ _ payload => payload.length ≤ maxPayload
  | .swapCancel _ _ payload => payload.length ≤ maxPayload
  | .halt _ _ payload => payload.length ≤ maxPayload
  | .modeSet _ _ payload => payload.length ≤ maxPayload
  | .propose _ _ payload => payload.length ≤ maxPayload
  | .vote _ _ payload => payload.length ≤ maxPayload
  | .proposalWithdraw _ _ payload => payload.length ≤ maxPayload
  | .badRequest _ _ code payload => !requestCodes.contains code && payload.length ≤ maxPayload
  | .requestFrame _ part bytes =>
    part != .finish || (transactionBytes ≤ bytes.length && hasControl 1 bytes)
  | .nullFrame _ part bytes =>
    part != .finish || (transactionBytes ≤ bytes.length && carriesNoRequest bytes)
  | .ack _ control => control.getLsbD 7
  | .shortTransaction _ part bytes => part != .finish || bytes.length < transactionBytes
  | .portReset _ part bytes _ =>
    part != .finish || (transactionBytes ≤ bytes.length && hasControl 2 bytes)
  | .prstNLow _ _ _ => true
  | .prstNRise _ => true
  | .powerOnReset _ => true
  | .rstNRelease => true

end Sys2Proof
end

