-- ==== Sys2Proof/Tests/Slice0.lean ====
section
/-!
SUPPORT. Tests of the model's own making: the refusals of `Instr.wellFormed`, the CRC by hand, and for
each command one or two steps on a small state. The expected results are the manual's: its worked
sequences (named by their section), its tables, or hand calculation from them.
-/

namespace Sys2Proof.Tests

-- One theorem is checked after another: the checks in parallel ask for more threads than there are.
set_option Elab.async false

open Sys2Proof.Machine

/-! ### Small states -/

/-- The state a command leaves. -/
def after (c : Instr) (s : State) : State :=
  match exec c s with
  | .next t => t
  | .fault _ => s
  | .refused _ => s

/-- A request with sequence number 7 waits at port `h`. -/
def asked (h : HostId) (code : Byte) (payload : List Byte) (s : State) : State :=
  s.setPort h { s.port h with inbound := [⟨7, code, payload⟩] }

/-- Outcome and result of the youngest reply at port `h`. -/
def replied (h : HostId) (s : State) : Option (ReplyCode × Result) :=
  (s.port h).replies.getLast?.map fun r => (r.outcome, r.result)

/-- The notices waiting at port `h`, with their frame numbers. -/
def told (h : HostId) (s : State) : List (NoticeBody × Word32) :=
  (s.port h).notices.map fun n => (n.body, n.frame)

/-- Position `p` of frame `n`, the frame `f` ticks long. -/
def clock (f p : Nat) (n : Word32) (s : State) : State := s.setTimebase ⟨f, p, n, none, false⟩

/-- Lane `l` is `x`. -/
def lane (l : LaneId) (x : Lane) (s : State) : State := s.setLane l x

/-- A lane HELD by `h` with the power-on settings. -/
def heldBy (h : HostId) : Lane := { Lane.powerOn with state := .held, holder := some h }

/-- A lane OFFERED by `h` to `t` with `n` boundaries remaining. -/
def offeredBy (h t : HostId) (n : Nat) : Lane :=
  { heldBy h with state := .offered, offer := some ⟨t, some n⟩ }

/-- A lane being handed over by `h` to `t`. -/
def handoverBy (h t : HostId) : Lane :=
  { heldBy h with state := .handover, offer := some ⟨t, none⟩ }

/-- A lane that `h` gives up. -/
def retiringBy (h : HostId) : Lane := { heldBy h with state := .retiring }

/-- A book with its run list where its state has one. -/
def book (st : BookState) (cues : List Cue) : Book :=
  ⟨cues, st, if st.compiled then some (buildRunList cues) else none, none⟩

/-- Host `h` has two books, a load and a run record. -/
def hosting (h : HostId) (a b : Book) (load : Option Load) (run : RunRecord) (s : State) : State :=
  s.setHost h
    ⟨a, b,
      a.cues.length + b.cues.length +
        match load with
        | some ld => ld.declared - ld.received
        | none => 0,
      load, run⟩

/-- A cue of every frame. -/
def cue (a : Action) (offset : Nat) (tag : Word16) : Cue := ⟨a, offset, 1, 0, tag⟩

/-- A note of every frame. -/
def note (offset : Nat) (tag : Word16) : Cue := cue .note offset tag

/-- The ten bytes of a RISE on lane 5 at offset 100, of every frame. -/
def riseBytes : List Byte := [0x05, 0x00, 0x00, 0x64, 0x00, 0x00, 0x01, 0x00, 0x00, 0x09]

/-- SINGLE mode with an active book. -/
def running (active : Option BookId) (action : PendingAction) : RunRecord :=
  ⟨.single, active, action, 1, 1, 0⟩

/-- A boundary at which every RBK pin is low and no order is preferred. -/
def calm : BoundaryIn := ⟨0, [], ⟨0, []⟩⟩

/-- A request frame of 56 bytes with the CRC given by hand. -/
def frame (control : Byte) (body : List Byte) : List Byte :=
  control :: (~~~control) :: body ++ List.replicate (54 - body.length) 0

/-! ### Well-formedness refuses, check by check -/

theorem test_wf_payload_too_long : (Instr.claim 0 0 (List.replicate 49 0)).wellFormed = false := by
  decide

theorem test_wf_payload_longest : (Instr.claim 0 0 (List.replicate 48 0)).wellFormed = true := by
  decide

theorem test_wf_badRequest_of_a_request : (Instr.badRequest 0 0 0x02 []).wellFormed = false := by
  decide

theorem test_wf_order_twice :
    (Instr.arrival ⟨0, [.drive 3, .drive 3]⟩).wellFormed = false ∧
      (Instr.frameBoundary ⟨0, [.agreement, .agreement], ⟨0, []⟩⟩).wellFormed = false ∧
      (Instr.frameBoundary ⟨0, [], ⟨0, [.notes 1, .notes 1]⟩⟩).wellFormed = false := by decide

theorem test_wf_requestFrame_short :
    (Instr.requestFrame 0 .finish (0x01 :: 0xFE :: List.replicate 53 0)).wellFormed = false := by
  decide

theorem test_wf_requestFrame_kind :
    (Instr.requestFrame 0 .finish (0x02 :: 0xFD :: List.replicate 54 0)).wellFormed = false := by
  decide

theorem test_wf_nullFrame_kind :
    (Instr.nullFrame 0 .finish (0x01 :: 0xFE :: List.replicate 54 0)).wellFormed = false ∧
      (Instr.nullFrame 0 .finish (0x01 :: 0xFF :: List.replicate 54 0)).wellFormed = true := by
  decide

theorem test_wf_portReset_kind :
    (Instr.portReset 0 .finish (0x01 :: 0xFE :: List.replicate 54 0) false).wellFormed = false := by
  decide

theorem test_wf_ack_without_ack : (Instr.ack 0 0x01).wellFormed = false := by decide

theorem test_wf_short_of_56 :
    (Instr.shortTransaction 0 .finish (List.replicate 56 0)).wellFormed = false := by decide

/-! ### Bytes (10.7) -/

/-- By hand: the register starts at 0xFF; after 0xFF it is 0; after 0xFE it is 1 shifted eight times
under x^8+x^2+x+1. -/
theorem test_crc8 : crc8 [] = 0xFF ∧ crc8 [0xFF] = 0 ∧ crc8 [0xFE] = 0x07 := by decide

/-- The worked cue: action 2 with width, lane 6, offset 700, width 250, every 2, phase 1, tag 3
(6.7). -/
theorem test_cueOfBytes :
    cueOfBytes [0xA6, 0x00, 0x02, 0xBC, 0x00, 0xFA, 0x02, 0x01, 0x00, 0x03] =
      some ⟨.pulse 6 250, 700, 2, 1, 3⟩ := by decide

/-- No bits are given for any row (opcode_table.json). -/
theorem test_no_word : decodeTableWord 32 0 = none := rfl

/-! ### Ticks -/

/-- 2.11: the PULSE of H1 on L3 starts at position 700 and ends at 900; the pin goes high. -/
theorem test_arrival_pulse_starts :
    let s := hosting 1 (book .active [cue (.pulse 3 200) 700 1]) (book .draft []) none
      (running (some .A) .none) (lane 3 (heldBy 1) (clock 1000 699 20 .reset))
    let x := (after (.arrival ⟨0, []⟩) s).lane 3
    x.level = true ∧ x.pulseEnd = some 900 ∧ x.pin = true := by decide +kernel

/-- 1.10: a NOTE of every 3 and phase 0 is due in frame 4,294,967,295. -/
theorem test_arrival_note_at_wrap :
    told 0
        (after (.arrival ⟨0, []⟩)
          (hosting 0 (book .active [⟨.note, 5, 3, 0, 9⟩]) (book .draft []) none
            (running (some .A) .none) (clock 1000 4 4294967295 .reset))) =
      [(.cueReached 9, 4294967295)] := by decide +kernel

/-- 1.9: the agreed 800 is taken at the boundary that begins frame 42; every host is told. -/
theorem test_frameBoundary_length :
    let s := ((clock 1000 999 41 .reset).setTimebase ⟨1000, 999, 41, some 800, false⟩).setProposal
      (some ⟨0, 800, 3, HostSet.none, HostSet.none, .agreed⟩)
    let t := after (.frameBoundary calm) s
    t.timebase = ⟨800, 0, 42, none, true⟩ ∧ t.proposal = none ∧
      told 3 t = [(.frameLength 800 42, 42)] := by decide +kernel

/-- 2.11: the boundary that begins frame 22 frees L3 and tells H1; the settings stay. -/
theorem test_frameBoundary_frees :
    let x : Lane := { retiringBy 1 with settings := ⟨.activeLow, 1, true, 4⟩ }
    let t := after (.frameBoundary { calm with rbk := 8 }) (lane 3 x (clock 1000 999 21 .reset))
    (t.lane 3).state = .free ∧ (t.lane 3).holder = none ∧ (t.lane 3).pin = true ∧
      told 1 t = [(.laneFreed 3, 22)] := by decide +kernel

/-- 2.11: the pulse ends at position 900 on the RETIRING lane, whose pin is active-low. -/
theorem test_pulseEnd :
    let x : Lane :=
      { retiringBy 1 with
        settings := ⟨.activeLow, 1, true, 4⟩, level := true, pulseEnd := some 900 }
    let t := after (.pulseEnd 3 calm) (lane 3 x (clock 1000 899 21 .reset))
    (t.lane 3).level = false ∧ (t.lane 3).pulseEnd = none ∧ (t.lane 3).pin = true ∧
      (t.lane 3).check = some 4 := by decide +kernel

/-- 8.7: the check at position 104 of frame 12 finds RBK7 low with the pin high. -/
theorem test_readbackCheck_fault :
    let x : Lane :=
      { heldBy 3 with settings := ⟨.activeHigh, 5, true, 4⟩, level := true, check := some 1 }
    let t := after (.readbackCheck 7 calm) (lane 7 x (clock 1000 103 12 .reset))
    (t.lane 7).faultRecord = some ⟨12, 104, true, false⟩ ∧ (t.lane 7).faultCount = 1 ∧
      (t.lane 7).level = false ∧ told 3 t = [(.laneFault 7 1, 12)] := by decide +kernel

/-- 8.7: the check at position 104 of frame 10 finds RBK7 high. -/
theorem test_readbackCheck_match :
    let x : Lane :=
      { heldBy 3 with settings := ⟨.activeHigh, 5, true, 4⟩, level := true, check := some 1 }
    let t := after (.readbackCheck 7 { calm with start := ⟨0x0080, []⟩ })
      (lane 7 x (clock 1000 103 10 .reset))
    (t.lane 7).faultFlag = false ∧ (t.lane 7).level = true ∧ (t.lane 7).check = none := by
  decide +kernel

/-- 7.10, the other order: the offer expires at the boundary that begins frame 63. -/
theorem test_offerExpiry :
    let t := after (.offerExpiry 4 calm) (lane 4 (offeredBy 0 2 1) (clock 1000 999 62 .reset))
    (t.lane 4).state = .held ∧ (t.lane 4).holder = some 0 ∧
      told 0 t = [(.offerEnded 4 .expired, 63)] ∧ told 2 t = [(.offerEnded 4 .expired, 63)] := by
  decide +kernel

/-- R175: two offers of H0 expire at one boundary; H0 is told in lane order, whichever lane the operand
takes first. -/
theorem test_offerExpiry_lane_order :
    let s := lane 4 (offeredBy 0 2 1) (lane 5 (offeredBy 0 1 1) (clock 1000 999 62 .reset))
    told 0 (after (.offerExpiry 4 { calm with order := [.lane 5, .lane 4] }) s) =
      [(.offerEnded 4 .expired, 63), (.offerEnded 5 .expired, 63)] := by decide +kernel

/-- R3, R175: the load unit reacts between the lane table and the monitor on one lane. -/
theorem test_loadIdleTimeout_between :
    let x : Lane := { offeredBy 1 2 1 with settings := ⟨.activeHigh, 1, true, 4⟩ }
    let s := hosting 1 (book .draft []) (book .draft []) (some ⟨.B, 10, 0, 0, 7⟩) (running none .none)
      (lane 4 x (clock 1000 999 108 .reset))
    let b : BoundaryIn := { calm with rbk := 16, order := [.lane 4, .load 1, .check 4] }
    told 1 (after (.loadIdleTimeout 1 b) s) =
      [(.offerEnded 4 .expired, 109), (.loadTimeout .B 0, 109), (.laneFault 4 1, 109)] := by
  decide +kernel

/-- 4.8 in small: the eighth idle boundary times the load out, and all its slots return. -/
theorem test_loadIdleTimeout :
    let s := hosting 1 (book .draft []) (book .draft [note 1 1, note 2 2, note 3 3])
      (some ⟨.B, 10, 2, 1, 7⟩) (running none .none) (clock 1000 999 108 .reset)
    let t := after (.loadIdleTimeout 1 calm) s
    (t.book 1 .B).cues = [note 1 1] ∧ (s.host 1).slots = 11 ∧ (t.host 1).slots = 1 ∧
      told 1 t = [(.loadTimeout .B 2, 109)] := by decide +kernel

/-- 12.2: the turn at the boundary that begins frame 202. -/
theorem test_alternationTurn :
    let s := hosting 0 (book .active []) (book .ready []) none ⟨.alternate, some .A, .none, 2, 3, 1⟩
      (clock 1000 999 201 .reset)
    let t := after (.alternationTurn 0 calm) s
    t.run 0 = ⟨.alternate, some .B, .none, 2, 3, 3⟩ ∧ (t.book 0 .A).state = .ready ∧
      (t.book 0 .B).state = .active ∧ told 0 t = [(.bookActive .B, 202)] := by decide +kernel

/-- 12.2: the turn at the boundary that begins frame 205 is skipped. -/
theorem test_alternationTurn_skipped :
    let s := (hosting 0 (book .compiling []) (book .active []) none
      ⟨.alternate, some .B, .none, 2, 3, 1⟩ (clock 1000 999 204 .reset)).setJobs [⟨0, .A⟩]
    let t := after (.alternationTurn 0 calm) s
    (t.run 0).turn = 3 ∧ told 0 t = [(.turnSkipped .A .compiling, 205)] := by decide +kernel

/-- R152, R157: the window runs out with H1 yet to vote. -/
theorem test_proposalExpiry :
    let p : Proposal := ⟨0, 900, 1, HostSet.ofTest (· == 1), HostSet.none, .opened⟩
    let t := after (.proposalExpiry calm)
      ((lane 1 (heldBy 1) (clock 1000 999 30 .reset)).setProposal (some p))
    t.proposal = none ∧ told 0 t = [(.proposalEnded .expired, 31)] ∧
      told 1 t = [(.proposalEnded .expired, 31)] ∧ told 2 t = [] := by decide +kernel

/-- R3, R175: the window runs out and H1's watched lane faults at one boundary; either notice can be
the older. -/
theorem test_proposalExpiry_beside_fault :
    let p : Proposal := ⟨0, 900, 1, HostSet.ofTest (· == 1), HostSet.none, .opened⟩
    let x : Lane := { heldBy 1 with settings := ⟨.activeHigh, 1, true, 4⟩ }
    let s := (lane 1 x (clock 1000 999 30 .reset)).setProposal (some p)
    let b : BoundaryIn := { calm with rbk := 2 }
    told 1 (after (.proposalExpiry b) s) = [(.laneFault 1 1, 31), (.proposalEnded .expired, 31)] ∧
      told 1 (after (.proposalExpiry { b with order := allLanes.map .lane ++ [.agreement] }) s) =
        [(.proposalEnded .expired, 31), (.laneFault 1 1, 31)] := by decide +kernel

/-- 5.8: H1's book B with L5 spaced 10, 40 pending, and an OPEN proposal of 900; `offset` is that of
the RISE. -/
def spacingCase (offset : Nat) : State :=
  ((hosting 1 (book .draft [])
      (book .compiling
        [cue (.pulse 5 50) 100 100, cue (.rise 5) offset 101, cue (.fall 5) 10 102, note 500 9])
      none (running none .none)
      (lane 5
        { heldBy 1 with
          settings := ⟨.activeHigh, 10, false, 4⟩, pending := some ⟨.activeHigh, 40, false, 4⟩ }
        (clock 1000 5 20 .reset))).setJobs [⟨1, .B⟩]).setProposal
    (some ⟨3, 900, 9, HostSet.ofTest (· == 1), HostSet.none, .opened⟩)

/-- 5.8: NO_FIT, index 1, tag 101. -/
theorem test_completion_noFit :
    told 1 (after .compileCompletion (spacingCase 980)) =
      [(.compileDone .B ⟨.noFit, some 1, none, some 101⟩, 20)] := by decide +kernel

/-- 5.8: SPACING, indices 2 and 1, tag 102; and READY at offset 850. -/
theorem test_completion_spacing :
    told 1 (after .compileCompletion (spacingCase 880)) =
        [(.compileDone .B ⟨.spacing, some 2, some 1, some 102⟩, 20)] ∧
      ((after .compileCompletion (spacingCase 850)).book 1 .B).state = .ready := by decide +kernel

/-! ### Requests -/

/-- The status block after power-on reset: F 1,000,000 is 0x000F4240, 512 common slots free are
0x0200, and byte 44 is SINGLE with no active book (3 in bits 5-4) and no pending action (10.7). -/
theorem test_status :
    (State.reset.statusFor 0).bytes.length = 48 ∧
      ((State.reset.statusFor 0).bytes.drop 8).take 4 = [0x00, 0x0F, 0x42, 0x40] ∧
      ((State.reset.statusFor 0).bytes.drop 42).take 6 = [0x02, 0x00, 0x30, 0x01, 0x01, 0x00] := by
  decide +kernel

theorem test_status_payload :
    replied 0 (after (.status 0 7 [0]) (asked 0 0x01 [0] .reset)) =
      some (.badArgument, .none) := by decide +kernel

/-- 2.12: L1 held by H0 refuses H2's CLAIM of L1, L2 and L4. -/
theorem test_claim_held :
    let s := lane 1 (heldBy 0) (lane 2 (retiringBy 3) .reset)
    let t := after (.claim 2 7 [0x00, 0x16]) (asked 2 0x02 [0x00, 0x16] s)
    replied 2 t = some (.held, .laneHost 1 0) ∧ (t.lane 4).state = .free := by decide +kernel

/-- 2.12: with L2 free, L2 and L4 are granted. -/
theorem test_claim_granted :
    let t := after (.claim 2 7 [0x00, 0x14]) (asked 2 0x02 [0x00, 0x14] .reset)
    replied 2 t = some (.done, .lanes 0x0014) ∧ (t.lane 2).holder = some 2 ∧
      (t.lane 4).state = .held ∧ (t.lane 1).state = .free := by decide +kernel

/-- 2.11: the pulse runs on in RETIRING. -/
theorem test_release :
    let s := lane 3 { heldBy 1 with level := true, pulseEnd := some 900 } (clock 1000 750 21 .reset)
    let t := after (.release 1 7 [3]) (asked 1 0x03 [3] s)
    (t.lane 3).state = .retiring ∧ (t.lane 3).level = true ∧ (t.lane 3).pulseEnd = some 900 := by
  decide +kernel

/-- 2.11: the settings are staged, not applied. -/
theorem test_laneSet :
    let t := after (.laneSet 1 7 [3, 3, 1, 4]) (asked 1 0x04 [3, 3, 1, 4] (lane 3 (heldBy 1) .reset))
    (t.lane 3).pending = some ⟨.activeLow, 1, true, 4⟩ ∧
      (t.lane 3).settings = ⟨.activeHigh, 1, false, 4⟩ := by decide +kernel

/-- 2.11: a raise of the spacing is refused while book A is ACTIVE with a cue on L3 (R28). -/
theorem test_laneSet_inUse :
    let s := hosting 1 (book .active [cue (.pulse 3 200) 700 1]) (book .draft []) none
      (running (some .A) .none) (lane 3 (heldBy 1) .reset)
    replied 1 (after (.laneSet 1 7 [3, 3, 2, 4]) (asked 1 0x04 [3, 3, 2, 4] s)) =
      some (.inUse, .none) := by decide +kernel

/-- 10.7: a lane record's bytes: HELD, H1, active-high, spacing 1, readback off, settle 4. -/
theorem test_laneQuery :
    let t := after (.laneQuery 0 7 [3]) (asked 0 0x05 [3] (lane 3 (heldBy 1) .reset))
    replied 0 t = some (.done, .laneRecord (heldBy 1).toLaneRecord) ∧
      ((heldBy 1).toLaneRecord.bytes fun _ => 0).take 5 = [1, 1, 0, 1, 4] := by decide +kernel

/-- 7.10: H0 offers L4 to H2 for 3 boundaries. -/
theorem test_offer :
    let t := after (.offer 0 7 [4, 2, 3])
      (asked 0 0x06 [4, 2, 3] (lane 4 (heldBy 0) (clock 1000 500 60 .reset)))
    (t.lane 4).offer = some ⟨2, some 3⟩ ∧ told 2 t = [(.offerMade 4 0 3, 60)] := by decide +kernel

theorem test_offer_to_itself :
    replied 0 (after (.offer 0 7 [4, 0, 3]) (asked 0 0x06 [4, 0, 3] (lane 4 (heldBy 0) .reset))) =
      some (.badArgument, .none) := by decide +kernel

/-- 7.10: a WITHDRAW after the acceptance is refused. -/
theorem test_withdraw_handover :
    replied 0 (after (.withdraw 0 7 [4]) (asked 0 0x07 [4] (lane 4 (handoverBy 0 2) .reset))) =
      some (.handover, .none) := by decide +kernel

theorem test_decline :
    let t := after (.decline 2 7 [4]) (asked 2 0x08 [4] (lane 4 (offeredBy 0 2 3) .reset))
    (t.lane 4).state = .held ∧ (t.lane 4).holder = some 0 ∧
      told 0 t = [(.offerEnded 4 .declined, 0)] := by decide +kernel

/-- 7.10: the ACCEPT in frame 61 names frame 62. -/
theorem test_accept :
    let t := after (.accept 2 7 [4])
      (asked 2 0x09 [4] (lane 4 (offeredBy 0 2 2) (clock 1000 200 61 .reset)))
    replied 2 t = some (.done, .accepted 4 0 62) ∧ (t.lane 4).state = .handover ∧
      (t.lane 4).holder = some 0 := by decide +kernel

/-- 8.7: the first FAULT CLEAR keeps the record and sets the check. -/
theorem test_faultClear :
    let x : Lane :=
      { heldBy 3 with
        settings := ⟨.activeHigh, 5, true, 4⟩, faultFlag := true, faultCount := 1
        faultRecord := some ⟨12, 104, true, false⟩ }
    let t := after (.faultClear 3 7 [7]) (asked 3 0x0A [7] (lane 7 x .reset))
    replied 3 t = some (.done, .faultCount 7 1) ∧ (t.lane 7).faultFlag = false ∧
      (t.lane 7).check = some 4 ∧ (t.lane 7).faultRecord = some ⟨12, 104, true, false⟩ := by
  decide +kernel

/-- 8.7: the third fault of a holding cannot be cleared. -/
theorem test_faultClear_limit :
    let x : Lane := { heldBy 3 with faultFlag := true, faultCount := 3 }
    replied 3 (after (.faultClear 3 7 [7]) (asked 3 0x0A [7] (lane 7 x .reset))) =
      some (.faultLimit, .none) := by decide +kernel

/-- 3.8: H2 with book A ACTIVE and book B of four cues. -/
def editing (st : BookState) : State :=
  hosting 2 (book .active [note 1 1]) (book st [note 1 1, note 2 2, note 3 3, note 4 4]) none
    (running (some .A) .none) .reset

/-- 3.8: index 6 is greater than the length 4, and book B stays READY. -/
theorem test_cuePut_index :
    let p : List Byte := 1 :: 0 :: 6 :: riseBytes
    let t := after (.cuePut 2 7 p) (asked 2 0x10 p (editing .ready))
    replied 2 t = some (.badArgument, .none) ∧ (t.book 2 .B).state = .ready := by decide +kernel

/-- 3.8: an append drops book B to DRAFT, of length 5. -/
theorem test_cuePut_append :
    let p : List Byte := 1 :: 0 :: 4 :: riseBytes
    let t := after (.cuePut 2 7 p) (asked 2 0x10 p (editing .ready))
    replied 2 t = some (.done, .book .draft 5) ∧ (t.host 2).slots = 6 ∧
      (t.book 2 .B).runList = none ∧ (t.book 2 .B).cues[4]? = some (cue (.rise 5) 100 9) := by
  decide +kernel

/-- 3.8: book A is ACTIVE. -/
theorem test_cueDrop_active :
    replied 2 (after (.cueDrop 2 7 [0, 0, 0]) (asked 2 0x11 [0, 0, 0] (editing .draft))) =
      some (.active, .none) := by decide +kernel

/-- R41, R49: the indices close up. -/
theorem test_cueDrop :
    let t := after (.cueDrop 2 7 [1, 0, 1]) (asked 2 0x11 [1, 0, 1] (editing .draft))
    (t.book 2 .B).cues = [note 1 1, note 3 3, note 4 4] ∧ (t.host 2).slots = 4 := by decide +kernel

/-- 4.8: the load's target is closed to edits. -/
theorem test_bookClear_loading :
    let s := hosting 1 (book .draft []) (book .draft []) (some ⟨.B, 2, 0, 0, 0⟩) (running none .none)
      .reset
    replied 1 (after (.bookClear 1 7 [1]) (asked 1 0x12 [1] s)) = some (.loading, .none) := by
  decide +kernel

theorem test_bookClear :
    let t := after (.bookClear 2 7 [1]) (asked 2 0x12 [1] (editing .ready))
    replied 2 t = some (.done, .book .draft 0) ∧ (t.host 2).slots = 1 := by decide +kernel

/-- 3.8: a copy of book B into itself is an edit. -/
theorem test_bookCopy_itself :
    let t := after (.bookCopy 2 7 [1, 1]) (asked 2 0x13 [1, 1] (editing .ready))
    replied 2 t = some (.done, .book .draft 4) ∧ (t.host 2).slots = 5 := by decide +kernel

/-- 3.8: a book that is COMPILING is read, without a report. -/
theorem test_bookRead :
    replied 2 (after (.bookRead 2 7 [1, 0, 0, 4]) (asked 2 0x14 [1, 0, 0, 4] (editing .compiling))) =
      some (.done, .bookRead .compiling 4 none [note 1 1, note 2 2, note 3 3, note 4 4]) := by
  decide +kernel

/-- 4.8: LOAD OPEN takes its slots at once, and the READY book drops to DRAFT. -/
theorem test_loadOpen :
    let t := after (.loadOpen 2 7 [1, 0, 10]) (asked 2 0x18 [1, 0, 10] (editing .ready))
    replied 2 t = some (.done, .loadOpened .B 4 10) ∧ (t.host 2).slots = 15 ∧
      (t.book 2 .B).state = .draft := by decide +kernel

/-- 4.8: three cues where two are to come. -/
theorem test_loadCues_too_many :
    let s := hosting 1 (book .draft []) (book .draft []) (some ⟨.B, 10, 8, 0, 0⟩) (running none .none)
      .reset
    let p := riseBytes ++ riseBytes ++ riseBytes
    replied 1 (after (.loadCues 1 7 p) (asked 1 0x19 p s)) = some (.badArgument, .none) := by
  decide +kernel

/-- 4.8, the other order: the last two cues complete the load. -/
theorem test_loadCues_complete :
    let s := hosting 1 (book .draft []) (book .draft [note 1 1]) (some ⟨.B, 3, 1, 0, 6⟩)
      (running none .none) .reset
    let p := riseBytes ++ riseBytes
    let t := after (.loadCues 1 7 p) (asked 1 0x19 p s)
    replied 1 t = some (.complete, .loadComplete .B 3) ∧ (t.host 1).load = none ∧
      (t.host 1).slots = 3 := by decide +kernel

/-- R69, R70. -/
theorem test_loadCancel :
    let s := hosting 1 (book .draft []) (book .draft [note 1 1, note 2 2]) (some ⟨.B, 3, 1, 1, 6⟩)
      (running none .none) .reset
    let t := after (.loadCancel 1 7 []) (asked 1 0x1A [] s)
    replied 1 t = some (.done, .loadCancelled .B 1 1) ∧ (t.host 1).slots = 1 := by decide +kernel

/-- 3.8: COMPILE of a DRAFT book. -/
theorem test_compile :
    let t := after (.compile 2 7 [1]) (asked 2 0x1C [1] (editing .draft))
    replied 2 t = some (.accepted, .compiling .B 4 0) ∧ t.jobs = [⟨2, .B⟩] ∧
      (t.book 2 .B).state = .compiling := by decide +kernel

/-- R77: one job per host. -/
theorem test_compile_busy :
    let s := (hosting 1 (book .compiling []) (book .draft []) none (running none .none) .reset).setJobs
      [⟨1, .A⟩]
    replied 1 (after (.compile 1 7 [1]) (asked 1 0x1C [1] s)) = some (.busy, .none) := by
  decide +kernel

/-- R88. -/
theorem test_compileAbort :
    let s := (editing .compiling).setJobs [⟨0, .A⟩, ⟨2, .B⟩, ⟨1, .A⟩]
    let t := after (.compileAbort 2 7 []) (asked 2 0x1D [] s)
    t.jobs = [⟨0, .A⟩, ⟨1, .A⟩] ∧ (t.book 2 .B).state = .draft ∧ (t.book 2 .B).cues.length = 4 := by
  decide +kernel

/-- 6.6: SWAP of the READY book B in frame 50. -/
theorem test_swap :
    let t := after (.swap 2 7 [1]) (asked 2 0x20 [1] (clock 1000 200 50 (editing .ready)))
    replied 2 t = some (.accepted, .swap .B .pending 51) ∧ (t.run 2).action = .swapTo .B ∧
      (t.run 2).active = some .A := by decide +kernel

/-- 6.6: book A is the active one. -/
theorem test_swap_alreadyActive :
    replied 2 (after (.swap 2 7 [0]) (asked 2 0x20 [0] (editing .ready))) =
      some (.alreadyActive, .swapRefused (some .A) (some .active)) := by decide +kernel

/-- 6.6: the cancel returns book B to READY. -/
theorem test_swapCancel :
    let s := hosting 0 (book .active []) (book .pending []) none (running (some .A) (.swapTo .B)) .reset
    let t := after (.swapCancel 0 7 []) (asked 0 0x21 [] s)
    replied 0 t = some (.done, .bookOnly .B) ∧ (t.book 0 .B).state = .ready ∧
      (t.run 0).action = .none := by decide +kernel

/-- 6.6: HALT in frame 51, and its refusal while a SWAP is pending. -/
theorem test_halt :
    let s := hosting 0 (book .ready []) (book .active []) none (running (some .B) .none)
      (clock 1000 400 51 .reset)
    let u := hosting 0 (book .active []) (book .pending []) none (running (some .A) (.swapTo .B)) .reset
    replied 0 (after (.halt 0 7 []) (asked 0 0x22 [] s)) = some (.accepted, .halt .B 52) ∧
      replied 0 (after (.halt 0 7 []) (asked 0 0x22 [] u)) = some (.busy, .none) := by decide +kernel

/-- 12.2: ALTERNATE with run lengths 2 and 3 while book A is ACTIVE. -/
theorem test_modeSet :
    let s := hosting 0 (book .active []) (book .ready []) none (running (some .A) .none) .reset
    let t := after (.modeSet 0 7 [1, 2, 3]) (asked 0 0x23 [1, 2, 3] s)
    replied 0 t = some (.done, .mode .alternate (some .A) 2) ∧
      t.run 0 = ⟨.alternate, some .A, .none, 2, 3, 2⟩ := by decide +kernel

/-- 9.9: the lanes of H0, H1 and H2. -/
def agreeing (p : Option Proposal) : State :=
  (lane 0 (heldBy 0) (lane 1 (heldBy 1) (lane 2 (heldBy 2) (clock 1000 100 30 .reset)))).setProposal p

/-- 9.9: the voters are H1 and H2. -/
theorem test_propose :
    let p : List Byte := [0, 0, 0x03, 0x84, 3]
    let t := after (.propose 0 7 p) (asked 0 0x28 p (agreeing none))
    replied 0 t = some (.accepted, .proposal 900 3 (HostSet.ofTest fun h => h == 1 || h == 2)) ∧
      told 1 t = [(.proposalOpen 0 900 3, 30)] ∧ told 3 t = [] := by decide +kernel

/-- 9.9: H1's PENDING book ends at 950. -/
theorem test_vote_doesNotFit :
    let p : Proposal := ⟨0, 900, 3, HostSet.ofTest (· == 1), HostSet.none, .opened⟩
    let s := hosting 1 (book .active []) (book .pending [cue (.pulse 1 100) 850 1]) none
      (running (some .A) (.swapTo .B)) (agreeing (some p))
    replied 1 (after (.vote 1 7 [1]) (asked 1 0x29 [1] s)) = some (.doesNotFit, .none) := by
  decide +kernel

/-- 9.9 and 1.9: the last YES hands the length to the timebase. -/
theorem test_vote_agreed :
    let p : Proposal := ⟨0, 900, 3, HostSet.ofTest (· == 2), HostSet.none, .opened⟩
    let t := after (.vote 2 7 [1]) (asked 2 0x29 [1] (agreeing (some p)))
    replied 2 t = some (.agreed, .none) ∧ t.timebase.nextLength = some 900 ∧
      t.timebase.f = 1000 := by decide +kernel

/-- 9.9: an AGREED record is not withdrawn. -/
theorem test_proposalWithdraw_agreed :
    let p : Proposal := ⟨0, 900, 3, HostSet.ofTest (· == 2), HostSet.ofTest (· == 2), .agreed⟩
    replied 0 (after (.proposalWithdraw 0 7 []) (asked 0 0x2A [] (agreeing (some p)))) =
      some (.agreed, .none) := by decide +kernel

/-- R169: a code that names no request. -/
theorem test_badRequest :
    replied 0 (after (.badRequest 0 7 0x0B [1]) (asked 0 0x0B [1] .reset)) =
      some (.badRequest, .none) := by decide +kernel

/-! ### Ports -/

/-- 10.6: a notice waits at port 0. -/
def waiting : State := State.reset.post 0 (.compileDone .A ⟨.ready, none, none, none⟩)

/-- 10.6: the REQUEST frame of T1 is admitted, and offers the notice; the CRC of its five bytes by
bitwise division outside the model. -/
theorem test_requestFrame :
    let t := after (.requestFrame 0 .finish (frame 0x01 [5, 0x02, 2, 0, 1, 0x29])) waiting
    (t.port 0).inbound = [⟨5, 0x02, [0, 1]⟩] ∧ (t.port 0).admission = .accepted ∧
      (t.port 0).ack = .notice := by decide +kernel

/-- 10.6: the frame of T4, with its CRC wrong, is refused. -/
theorem test_requestFrame_crc :
    let t := after
      (.requestFrame 0 .finish (frame 0x01 [6, 0x03, 1, 2, 0x04])) .reset
    (t.port 0).inbound = [] ∧ (t.port 0).admission = .crc := by decide +kernel

/-- 10.6: the NULL frame of T2 acknowledges the notice and offers nothing here. -/
theorem test_nullFrame :
    let s := waiting.setPort 0 { waiting.port 0 with ack := .notice, admission := .accepted }
    let t := after (.nullFrame 0 .finish (frame 0x80 [])) s
    (t.port 0).notices = [] ∧ (t.port 0).ack = .nothing ∧ (t.port 0).admission = .none := by
  decide +kernel

/-- R163: the ACK removes the named notice at byte 1. -/
theorem test_ack :
    let s := waiting.setPort 0 { waiting.port 0 with ack := .notice }
    told 0 (after (.ack 0 0x80) s) = [] := by decide +kernel

/-- R164: a transaction of one byte. -/
theorem test_shortTransaction :
    let t := after (.shortTransaction 0 .finish [0x01]) waiting
    (t.port 0).admission = .short ∧ (t.port 0).sdo = [0x00] := by decide +kernel

/-- R170: the queues are emptied and the lane is given up. -/
theorem test_portReset :
    let t := after (.portReset 0 .finish (frame 0x02 []) false) (lane 1 (heldBy 0) waiting)
    told 0 t = [] ∧ (t.lane 1).state = .retiring := by decide +kernel

/-- R171: the fall of PRST_n, and a notice while it is low. -/
theorem test_prstNLow :
    let t := after (.prstNLow 0 0 false) (lane 1 (heldBy 0) waiting)
    (t.port 0).held = true ∧ (t.lane 1).state = .retiring ∧
      told 0 (t.post 0 (.laneFreed 1)) = [] := by decide +kernel

theorem test_prstNRise :
    let t := after (.prstNRise 0) (after (.prstNLow 0 0 false) waiting)
    (t.port 0).held = false ∧ (t.port 0).freeCredits = 3 := by decide +kernel

/-- R173: two bytes of a transaction on P0, status NONE and three free credits, are out when RST_n
falls; SDO is high for the rest, and the frame is not admitted. -/
theorem test_powerOnReset_inTransaction :
    let s := after (.nullFrame 0 .control [0x00, 0xFF]) .reset
    let t := after (.nullFrame 0 .finish (frame 0x00 [])) (after (.powerOnReset #v[2, 0, 0, 0]) s)
    (t.port 0).sdo = 0x00 :: 0x30 :: List.replicate 54 0xFF ∧
      (t.port 0).link = .idle := by decide +kernel

/-- R12, R173: the values of power-on reset, held until the release. -/
theorem test_powerOnReset :
    let t := after .powerOnReset (clock 800 17 9 (lane 1 (heldBy 0) waiting))
    t.timebase = ⟨1000000, 0, 0, none, false⟩ ∧ t.lane 1 = Lane.powerOn ∧ t.attn 0 = false ∧
      (after (.arrival ⟨0, []⟩) t).timebase.position = 0 := by decide +kernel

theorem test_rstNRelease :
    (after .rstNRelease (after .powerOnReset waiting)).rstN = true ∧
      (after .rstNRelease (after .powerOnReset waiting)).timebase.fmark = false := by decide +kernel

/-- An empty queue idles; a command leaves the queue as it runs. -/
theorem test_step :
    step State.reset = .next State.reset ∧
      step (State.reset.setPending [.rstNRelease]) = .next State.reset := ⟨rfl, rfl⟩

end Sys2Proof.Tests
end

