-- ==== Sys2Proof/Tests/Witnesses.lean ====
section
/-!
SUPPORT. For each statement that has hypotheses, a concrete state and operands that meet them, clause
by clause, at the boundary values of the clauses' ranges.
-/

namespace Sys2Proof.Tests

open Sys2Proof.Machine Sys2Proof.Safety

-- One theorem is checked after another, as in Slice0.
set_option Elab.async false

/-- Host `h`'s request is the one the engine takes next in a state for which `P` holds. -/
abbrev Asks (h : HostId) (code : Byte) (payload : List Byte) (s : State) (P : State → Prop) : Prop :=
  (asked h code payload s).nextRequest = some (h, ⟨7, code, payload⟩) ∧ P (asked h code payload s)

/-- Nothing more is asked of the state. -/
abbrev anyState : State → Prop := fun _ => True

/-! ### Commands and the engine -/

theorem witness_StepRunsFront :
    (State.reset.setPending [.rstNRelease, .powerOnReset]).pending = .rstNRelease :: [.powerOnReset] ∧
      State.reset.pending = [] := ⟨rfl, rfl⟩

theorem witness_EngineRoundRobin :
    let s := asked 0 0x01 [] (asked 2 0x01 [] .reset)
    s.nextRequest = some (0, ⟨7, 0x01, []⟩) ∧ waits s 2 = true ∧
      (s.setLastServed 0).nextRequest = some (2, ⟨7, 0x01, []⟩) ∧
      waits (s.setLastServed 0) 0 = true := by decide +kernel

theorem witness_TakenRequestAnswered :
    requestOf (.claim 0 7 [0, 1]) = some (0, ⟨7, 0x02, [0, 1]⟩) ∧
      Asks 0 0x02 [0, 1] .reset anyState := by decide +kernel

theorem witness_OccurrenceOrNothing :
    requestOf (.halt 0 7 []) = some (0, ⟨7, 0x22, []⟩) ∧
      State.reset.nextRequest ≠ some (0, ⟨7, 0x22, []⟩) ∧
      ¬ arrivalNext (clock 16 15 0 .reset) ∧ ¬ boundaryNext (clock 16 14 0 .reset) := by
  decide +kernel

theorem witness_BadRequests :
    (0x00 : Byte) ∉ codesOfRequests ∧ (0x0B : Byte) ∉ codesOfRequests ∧
      (0xFF : Byte) ∉ codesOfRequests ∧ Asks 3 0xFF [1] .reset anyState ∧
      requestOf (.claim 0 7 [1]) = some (0, ⟨7, 0x02, [1]⟩) ∧ payloadLength 0x02 = some 2 ∧
      Asks 0 0x02 [1] .reset anyState ∧ Asks 0 0x02 [1, 2, 3] .reset anyState ∧
      requestOf (.swap 0 7 []) = some (0, ⟨7, 0x20, []⟩) ∧ payloadLength 0x20 = some 1 ∧
      Asks 0 0x20 [] .reset anyState ∧
      requestOf (.loadCues 0 7 (List.replicate 9 0)) =
        some (0, ⟨7, 0x19, List.replicate 9 0⟩) ∧
      (List.replicate 9 (0 : Byte)).length ∉ [10, 20, 30, 40] ∧
      (List.replicate 41 (0 : Byte)).length ∉ [10, 20, 30, 40] ∧
      Asks 0 0x19 (List.replicate 9 0) .reset anyState := by decide +kernel

theorem witness_ReadingRequests :
    Asks 0 0x01 [] .reset anyState ∧
      Asks 0 0x05 [16] .reset (fun _ => 15 < (16 : Byte).toNat) ∧
      Asks 0 0x05 [15] .reset (fun _ => (15 : Byte).toNat = (15 : LaneId).val) ∧
      Asks 0 0x14 [2, 0, 0, 1] .reset (fun _ => bookOfByte 2 = none) ∧
      Asks 0 0x14 [0, 0, 0, 0] .reset anyState ∧ Asks 0 0x14 [0, 0, 0, 5] .reset anyState ∧
      Asks 2 0x14 [1, 0, 5, 4] (editing .draft) (fun s =>
        bookOfByte 1 = some .B ∧ (s.book 2 .B).cues.length < 5) ∧
      Asks 2 0x14 [1, 0, 4, 1] (editing .draft) (fun s => 4 ≤ (s.book 2 .B).cues.length) := by
  decide +kernel

/-! ### Lane requests -/

theorem witness_ClaimRequest :
    Asks 0 0x02 [0, 0] .reset anyState ∧
      Asks 0 0x02 [0xFF, 0xFF] .reset (fun s => ∀ l : LaneId, (s.lane l).state = .free) ∧
      Asks 0 0x02 [0x80, 0x00] (lane 15 (retiringBy 0) .reset) (fun s =>
        (s.lane 15).state = .retiring) ∧
      Asks 0 0x02 [0x00, 0x01] (lane 0 (heldBy 0) .reset) (fun s =>
        (s.lane 0).state ≠ .retiring ∧ (s.lane 0).holder = some 0) ∧
      Asks 0 0x02 [0x00, 0x02] (lane 1 (offeredBy 3 0 1) .reset) (fun s =>
        (s.lane 1).state ≠ .retiring ∧ (s.lane 1).state ≠ .free ∧ (s.lane 1).holder = some 3) := by
  decide +kernel

theorem witness_ReleaseRequest :
    Asks 0 0x03 [16] .reset (fun _ => 15 < (16 : Byte).toNat) ∧
      Asks 0 0x03 [15] .reset (fun s => (s.lane 15).holder ≠ some 0) ∧
      Asks 0 0x03 [0] (lane 0 (retiringBy 0) .reset) (fun s =>
        (s.lane 0).holder = some 0 ∧ (s.lane 0).state = .retiring) ∧
      Asks 0 0x03 [0] (lane 0 (offeredBy 0 1 1) .reset) (fun s =>
        (s.lane 0).holder = some 0 ∧ (s.lane 0).state = .offered) ∧
      Asks 0 0x03 [0] (lane 0 (handoverBy 0 1) .reset) (fun s =>
        (s.lane 0).holder = some 0 ∧ (s.lane 0).state = .handover) ∧
      Asks 0 0x03 [15] (lane 15 { heldBy 0 with level := true } .reset) (fun s =>
        (s.lane 15).holder = some 0 ∧ (s.lane 15).state = .held ∧
          (s.lane 15).pulseEnd.isNone = true) ∧
      Asks 0 0x03 [15] (lane 15 { heldBy 0 with level := true, pulseEnd := some 9 } .reset) (fun s =>
        (s.lane 15).state = .held ∧ (s.lane 15).pulseEnd = some 9) := by decide +kernel

theorem witness_LaneSetRequest :
    Asks 0 0x04 [16, 0, 1, 1] .reset anyState ∧ Asks 0 0x04 [0, 0, 0, 1] .reset anyState ∧
      Asks 0 0x04 [0, 0, 1, 0] .reset anyState ∧ Asks 0 0x04 [0, 0, 1, 16] .reset anyState ∧
      Asks 0 0x04 [15, 0, 255, 15] .reset (fun s => (s.lane 15).holder ≠ some 0) ∧
      Asks 0 0x04 [0, 0, 1, 1] (lane 0 (retiringBy 0) .reset) (fun s =>
        (s.lane 0).holder = some 0 ∧ (s.lane 0).state = .retiring) ∧
      Asks 0 0x04 [0, 0, 1, 1] (lane 0 (handoverBy 0 1) .reset) (fun s =>
        (s.lane 0).holder = some 0 ∧ (s.lane 0).state = .handover) ∧
      Asks 0 0x04 [0, 0, 2, 1]
        (hosting 0 (book .draft []) (book .ready [cue (.rise 0) 1 1]) none (running none .none)
          (lane 0 (heldBy 0) .reset)) (fun s =>
        (s.lane 0).holder = some 0 ∧ (s.lane 0).state = .held ∧ (s.lane 0).settings.spacing < 2 ∧
          (s.book 0 .B).state ∈ [BookState.ready, .pending, .active] ∧
          ∃ c ∈ (s.book 0 .B).cues, c.lane? = some 0) ∧
      Asks 0 0x04 [0, 0, 1, 15]
        (hosting 0 (book .draft []) (book .ready [cue (.rise 0) 1 1]) none (running none .none)
          (lane 0 (offeredBy 0 1 2) .reset)) (fun s =>
        (s.lane 0).state = .offered ∧ ¬ (s.lane 0).settings.spacing < 1) := by decide +kernel

theorem witness_OfferRequest :
    Asks 0 0x06 [16, 1, 1] .reset anyState ∧ Asks 0 0x06 [0, 4, 1] .reset anyState ∧
      Asks 0 0x06 [0, 1, 0] .reset anyState ∧ Asks 0 0x06 [0, 1, 65] .reset anyState ∧
      Asks 0 0x06 [15, 0, 64] .reset anyState ∧
      Asks 0 0x06 [15, 3, 64] .reset (fun s => (s.lane 15).holder ≠ some 0) ∧
      Asks 0 0x06 [0, 3, 1] (lane 0 (retiringBy 0) .reset) (fun s => (s.lane 0).state = .retiring) ∧
      Asks 0 0x06 [0, 3, 1] (lane 0 (offeredBy 0 1 1) .reset) (fun s => (s.lane 0).state = .offered) ∧
      Asks 0 0x06 [0, 3, 1] (lane 0 (handoverBy 0 1) .reset) (fun s =>
        (s.lane 0).state = .handover) ∧
      Asks 0 0x06 [0, 3, 1] (lane 0 { heldBy 0 with faultFlag := true } .reset) (fun s =>
        (s.lane 0).holder = some 0 ∧ (s.lane 0).state = .held ∧ (s.lane 0).faultFlag = true) ∧
      Asks 0 0x06 [0, 3, 1] (lane 0 (heldBy 0) (after (.prstNLow 3 0 false) .reset)) (fun s =>
        (s.lane 0).state = .held ∧ (s.lane 0).faultFlag = false ∧ (s.port 3).held = true) ∧
      Asks 0 0x06 [15, 3, 64] (lane 15 (heldBy 0) .reset) (fun s =>
        (s.lane 15).holder = some 0 ∧ (s.lane 15).state = .held ∧ (s.lane 15).faultFlag = false ∧
          (s.port 3).held = false) := by decide +kernel

theorem witness_WithdrawRequest :
    Asks 0 0x07 [16] .reset anyState ∧
      Asks 0 0x07 [15] .reset (fun s => (s.lane 15).holder ≠ some 0) ∧
      Asks 0 0x07 [0] (lane 0 (handoverBy 0 1) .reset) (fun s =>
        (s.lane 0).holder = some 0 ∧ (s.lane 0).state = .handover) ∧
      Asks 0 0x07 [0] (lane 0 (heldBy 0) .reset) (fun s =>
        (s.lane 0).holder = some 0 ∧ (s.lane 0).state = .held) ∧
      Asks 0 0x07 [0] (lane 0 (retiringBy 0) .reset) (fun s => (s.lane 0).state = .retiring) ∧
      Asks 0 0x07 [15] (lane 15 (offeredBy 0 3 1) .reset) (fun s =>
        (s.lane 15).holder = some 0 ∧ (s.lane 15).state = .offered ∧
          (s.lane 15).offer = some ⟨3, some 1⟩) := by decide +kernel

theorem witness_DeclineAndAccept :
    Asks 1 0x08 [16] .reset anyState ∧ Asks 1 0x09 [16] .reset anyState ∧
      Asks 1 0x08 [15] .reset (fun s => (s.lane 15).offer.map (·.target) ≠ some 1) ∧
      Asks 1 0x09 [0] (lane 0 (offeredBy 0 2 1) .reset) (fun s =>
        (s.lane 0).offer.map (·.target) ≠ some 1) ∧
      Asks 1 0x08 [0] (lane 0 (handoverBy 0 1) .reset) (fun s =>
        (s.lane 0).offer.map (·.target) = some 1 ∧ (s.lane 0).state = .handover) ∧
      Asks 1 0x09 [0] (lane 0 (handoverBy 0 1) .reset) (fun s => (s.lane 0).state = .handover) ∧
      Asks 1 0x08 [15] (lane 15 (offeredBy 0 1 64) .reset) (fun s =>
        (s.lane 15).offer.map (·.target) = some 1 ∧ (s.lane 15).state = .offered ∧
          (s.lane 15).holder = some 0) ∧
      Asks 1 0x09 [15] (lane 15 (offeredBy 0 1 1) .reset) (fun s =>
        (s.lane 15).offer.map (·.target) = some 1 ∧ (s.lane 15).state = .offered ∧
          (s.lane 15).holder = some 0) := by decide +kernel

theorem witness_FaultClearRequest :
    Asks 0 0x0A [16] .reset anyState ∧
      Asks 0 0x0A [15] .reset (fun s => (s.lane 15).holder ≠ some 0) ∧
      Asks 0 0x0A [0] (lane 0 (retiringBy 0) .reset) (fun s =>
        (s.lane 0).holder = some 0 ∧ (s.lane 0).state = .retiring) ∧
      Asks 0 0x0A [0] (lane 0 (handoverBy 0 1) .reset) (fun s => (s.lane 0).state = .handover) ∧
      Asks 0 0x0A [0] (lane 0 (offeredBy 0 1 1) .reset) (fun s =>
        (s.lane 0).state = .offered ∧ (s.lane 0).faultFlag = false) ∧
      Asks 0 0x0A [0] (lane 0 { heldBy 0 with faultFlag := true, faultCount := 3 } .reset) (fun s =>
        (s.lane 0).state = .held ∧ (s.lane 0).faultFlag = true ∧ 3 ≤ (s.lane 0).faultCount) ∧
      Asks 0 0x0A [15] (lane 15 { heldBy 0 with faultFlag := true, faultCount := 2 } .reset) (fun s =>
        (s.lane 15).holder = some 0 ∧ (s.lane 15).state = .held ∧ (s.lane 15).faultFlag = true ∧
          (s.lane 15).faultCount < 3) := by decide +kernel

/-! ### Cues, books and slots -/

theorem witness_CueEntry :
    cueOfBytes [0x0F, 0, 0, 0, 9, 9, 1, 0, 0, 1] = some ⟨.rise 15, 0, 1, 0, 1⟩ ∧
      cueOfBytes [0x40, 0xFF, 0xFF, 0xFF, 0, 0, 255, 254, 0, 1] =
        some ⟨.fall 0, 16777215, 255, 254, 1⟩ ∧
      cueOfBytes [0xA0, 0, 0, 0, 0, 1, 1, 0, 0xFF, 0xFF] = some ⟨.pulse 0 1, 0, 1, 0, 0xFFFF⟩ ∧
      cueOfBytes [0xAF, 0, 0, 0, 0xFF, 0xFF, 1, 0, 0, 0] = some ⟨.pulse 15 65535, 0, 1, 0, 0⟩ ∧
      cueOfBytes [0xDF, 0, 0, 0, 0, 0, 2, 1, 0, 0] = some ⟨.note, 0, 2, 1, 0⟩ := by decide +kernel

/-- A host record with book A in a state, and another's load and run record. -/
def gated (st : BookState) (load : Option Load) (run : RunRecord) : HostRecord :=
  ⟨book st [], book .draft [], 0, load, run⟩

theorem witness_GateAndSlotTest :
    let loading : Option Load := some ⟨.A, 1, 0, 0, 0⟩
    let late : RunRecord := ⟨.alternate, some .B, .none, 1, 1, 1⟩
    ((gated .compiling none .initial).book .A).state = .compiling ∧
      ((gated .pending none .initial).book .A).state = .pending ∧
      ((gated .active none .initial).book .A).state = .active ∧
      ((gated .draft loading .initial).book .A).state = .draft ∧
      (gated .draft loading .initial).load.map (·.book) = some .A ∧
      (gated .draft none .initial).load.map (·.book) ≠ some .A ∧
      ((gated .ready none late).book .A).state = .ready ∧
      ((gated .ready none late).run.mode = .alternate ∧
        (gated .ready none late).run.active ≠ some .A ∧ (gated .ready none late).run.turn = 1) ∧
      ¬ ((gated .ready none { late with turn := 2 }).run.mode = .alternate ∧
        (gated .ready none { late with turn := 2 }).run.active ≠ some .A ∧
        (gated .ready none { late with turn := 2 }).run.turn = 1) := by decide +kernel

/-- Every common slot is drawn: H3 has 640 slots, H0 has 128. -/
def full (st : BookState) (cues : List Cue) : State :=
  (hosting 0 (book .draft [note 1 1, note 2 2]) (book st cues) none (running none .none)
    (State.reset.setHost 3 { HostRecord.initial with slots := 640 })).setHost 0
    ⟨book .draft [note 1 1, note 2 2], book st cues, 128, none, running none .none⟩

/-- A book of `n` notes, without a run list. -/
def long (n : Nat) : Book := ⟨List.replicate n (note 1 1), .draft, none, none⟩

theorem witness_CuePutRequest :
    bookOfByte 2 = none ∧ cueOfBytes [1] = none ∧ bookOfByte 1 = some .B ∧
      cueOfBytes riseBytes = some (cue (.rise 5) 100 9) ∧
      Asks 0 0x10 (2 :: 0 :: 0 :: riseBytes) .reset anyState ∧ Asks 0 0x10 [0, 0, 0, 1] .reset anyState ∧
      Asks 2 0x10 (1 :: 0 :: 0 :: riseBytes) (editing .compiling) (fun s =>
        (s.host 2).gate .B = some .compiling) ∧
      Asks 2 0x10 (1 :: 0 :: 5 :: riseBytes) (editing .draft) (fun s =>
        (s.host 2).gate .B = none ∧ (s.book 2 .B).cues.length < 5) ∧
      Asks 0 0x10 (1 :: 2 :: 0 :: riseBytes) (hosting 0 (book .draft []) (long 512) none
        (running none .none) .reset) (fun s =>
        (s.host 0).gate .B = none ∧ 512 = (s.book 0 .B).cues.length) ∧
      Asks 2 0x10 (1 :: 0 :: 3 :: riseBytes) (editing .ready) (fun s =>
        (s.host 2).gate .B = none ∧ 3 < (s.book 2 .B).cues.length) ∧
      Asks 0 0x10 (1 :: 0 :: 1 :: riseBytes) (full .draft [note 1 1]) (fun s =>
        (s.host 0).gate .B = none ∧ 1 = (s.book 0 .B).cues.length ∧ s.slotTest 0 1 = false) ∧
      Asks 0 0x10 (1 :: 1 :: 255 :: riseBytes) (hosting 0 (book .draft []) (long 511) none
        (running none .none) .reset) (fun s =>
        (s.host 0).gate .B = none ∧ 511 = (s.book 0 .B).cues.length ∧ s.slotTest 0 1 = true) := by
  decide +kernel

theorem witness_DropAndClear :
    Asks 2 0x11 [2, 0, 0] .reset anyState ∧ Asks 2 0x12 [255] .reset anyState ∧
      bookOfByte 2 = none ∧ bookOfByte 255 = none ∧
      Asks 2 0x11 [0, 0, 0] (editing .draft) (fun s => (s.host 2).gate .A = some .active) ∧
      Asks 2 0x11 [1, 0, 4] (editing .draft) (fun s =>
        (s.host 2).gate .B = none ∧ (s.book 2 .B).cues.length ≤ 4) ∧
      Asks 2 0x11 [1, 0, 3] (editing .ready) (fun s =>
        (s.host 2).gate .B = none ∧ 3 < (s.book 2 .B).cues.length) ∧
      Asks 2 0x12 [0] (editing .draft) (fun s => (s.host 2).gate .A = some .active) ∧
      Asks 2 0x12 [1] (editing .draft) (fun s => (s.host 2).gate .B = none) := by decide +kernel

theorem witness_BookCopyRequest :
    Asks 2 0x13 [2, 0] .reset anyState ∧ Asks 2 0x13 [0, 2] .reset anyState ∧
      Asks 2 0x13 [1, 0] (editing .draft) (fun s => (s.host 2).gate .A = some .active) ∧
      Asks 0 0x13 [0, 1] (full .draft [note 1 1]) (fun s =>
        (s.host 0).gate .B = none ∧ (s.book 0 .B).cues.length < (s.book 0 .A).cues.length ∧
          s.slotTest 0 1 = false) ∧
      Asks 0 0x13 [0, 1]
        (hosting 0 (book .draft [note 1 1]) (book .ready []) none (running none .none) .reset)
        (fun s =>
          (s.host 0).gate .B = none ∧ (s.book 0 .B).cues.length < (s.book 0 .A).cues.length ∧
            s.slotTest 0 1 = true) ∧
      Asks 2 0x13 [1, 1] (editing .ready) (fun s =>
        (s.host 2).gate .B = none ∧ (s.book 2 .B).cues.length ≤ (s.book 2 .B).cues.length) := by
  decide +kernel

/-! ### Loads and the compiler -/

theorem witness_LoadOpenRequest :
    Asks 0 0x18 [2, 0, 1] .reset anyState ∧ Asks 0 0x18 [0, 0, 0] .reset anyState ∧
      Asks 0 0x18 [0, 2, 1] .reset anyState ∧
      Asks 2 0x18 [0, 0, 1] (editing .draft) (fun s => (s.host 2).gate .A = some .active) ∧
      Asks 2 0x18 [1, 1, 253] (editing .draft) (fun s =>
        (s.host 2).gate .B = none ∧ 512 < (s.book 2 .B).cues.length + (1 * 256 + 253)) ∧
      Asks 0 0x18 [0, 2, 0]
        (hosting 0 (book .draft []) (book .draft []) (some ⟨.B, 1, 0, 0, 0⟩) (running none .none)
          .reset) (fun s =>
        (s.host 0).gate .A = none ∧ (s.book 0 .A).cues.length + 512 ≤ 512 ∧
          (s.host 0).load.isSome = true) ∧
      Asks 0 0x18 [1, 0, 1] (full .draft [note 1 1]) (fun s =>
        (s.host 0).gate .B = none ∧ (s.host 0).load = none ∧ s.slotTest 0 1 = false) ∧
      Asks 0 0x18 [0, 2, 0] .reset (fun s =>
        (s.host 0).gate .A = none ∧ (s.host 0).load = none ∧ s.slotTest 0 512 = true) := by
  decide +kernel

/-- A load of H1 into book B. -/
def loading (declared received : Nat) : State :=
  hosting 1 (book .draft []) ⟨List.replicate received (note 1 1), .draft, none, none⟩
    (some ⟨.B, declared, received, 0, 0⟩) (running none .none) .reset

/-- Ten bytes that are no cue: a RISE with every 0. -/
def noCue : List Byte := [0x05, 0, 0, 1, 0, 0, 0, 0, 0, 0]

theorem witness_LoadCuesRequest :
    cueOfBytes noCue = none ∧ (cueOfBytes riseBytes).isSome = true ∧
      Asks 1 0x19 [noCue].flatten (loading 4 0) anyState ∧
      Asks 1 0x19 [riseBytes, riseBytes, riseBytes, noCue].flatten (loading 4 0) anyState ∧
      Asks 1 0x19 [riseBytes].flatten .reset (fun s => (s.host 1).load = none) ∧
      Asks 1 0x19 [riseBytes, riseBytes, riseBytes].flatten (loading 4 2) (fun s =>
        (s.host 1).load = some ⟨.B, 4, 2, 0, 0⟩ ∧ 4 < 2 + 3) ∧
      Asks 1 0x19 [riseBytes].flatten (loading 4 2) (fun s =>
        (s.host 1).load = some ⟨.B, 4, 2, 0, 0⟩ ∧ 2 + 1 < 4) ∧
      Asks 1 0x19 [riseBytes, riseBytes, riseBytes, riseBytes].flatten (loading 4 0) (fun s =>
        (s.host 1).load = some ⟨.B, 4, 0, 0, 0⟩ ∧ 0 + 4 = 4) := by decide +kernel

theorem witness_CancellingRequests :
    Asks 0 0x1A [] .reset (fun s => (s.host 0).load = none) ∧
      Asks 1 0x1A [] (loading 4 2) (fun s => (s.host 1).load = some ⟨.B, 4, 2, 0, 0⟩) ∧
      Asks 0 0x1D [] (State.reset.setJobs [⟨1, .A⟩]) (fun s => ∀ j ∈ s.jobs, j.host ≠ 0) ∧
      Asks 0 0x1D [] (State.reset.setJobs [⟨1, .A⟩, ⟨0, .B⟩]) (fun s =>
        (⟨0, .B⟩ : Job) ∈ s.jobs ∧ ∀ k ∈ s.jobs, k.host = 0 → k = ⟨0, .B⟩) ∧
      Asks 0 0x21 [] .reset (fun s => (s.run 0).action = .none) ∧
      Asks 0 0x21 []
        (hosting 0 (book .active []) (book .draft []) none (running (some .A) .halt) .reset)
        (fun s => (s.run 0).action = .halt) ∧
      Asks 0 0x21 []
        (hosting 0 (book .active []) (book .pending []) none (running (some .A) (.swapTo .B)) .reset)
        (fun s => (s.run 0).action = .swapTo .B) := by decide +kernel

theorem witness_CompileRequest :
    Asks 0 0x1C [2] .reset (fun _ => bookOfByte 2 = none) ∧
      Asks 2 0x1C [0] (editing .draft) (fun s => (s.host 2).gate .A = some .active) ∧
      Asks 0 0x1C [1] (State.reset.setJobs [⟨0, .A⟩]) (fun s =>
        (s.host 0).gate .B = none ∧ ∃ j ∈ s.jobs, j.host = 0) ∧
      Asks 0 0x1C [1] (State.reset.setJobs [⟨1, .A⟩]) (fun s =>
        (s.host 0).gate .B = none ∧ ∀ j ∈ s.jobs, j.host ≠ 0) := by decide +kernel

theorem witness_CompileCompletion :
    State.reset.rstN = true ∧ State.reset.jobs = [] ∧
      (spacingCase 850).rstN = true ∧ (spacingCase 850).jobs.head? = some ⟨1, .B⟩ := by
  decide +kernel

theorem witness_CompileChecks :
    (State.reset.lane 0).state ∉ [LaneState.held, .offered] ∧
      ((lane 0 (heldBy 0) .reset).lane 0).holder = some 0 ∧
      (cue (.rise 0) 1000000 1).fits 1000000 = false ∧
      (cue (.rise 0) 999999 1).fits 1000000 = true ∧
      (List.replicate 17 (note 1 1))[16]? = some (note 1 1) ∧
      ((List.replicate 17 (note 1 1)).take 16).countP (fun d => d.action == .note) = 16 ∧
      (List.replicate 16 (note 1 1)).countP (fun d => d.action == .note) ≤ 16 ∧
      spacedBy 5 [16] (actionPositions [cue (.pulse 0 5) 0 1] 0) ∧
      ¬ spacedBy 6 [16] (actionPositions [cue (.pulse 0 5) 0 1] 0) ∧
      ¬ spacedBy 5 [9] (actionPositions [cue (.pulse 0 5) 0 1] 0) := by decide +kernel

/-- 5.8 with the RISE at 871: the action positions of L5 in order, and the wrap under 900 is the pair
that is too close, the FALL's action the later one. -/
theorem witness_CompileChecks_spacing :
    let s := spacingCase 871
    let cues := (s.book 1 .B).cues
    let as : LaneId → List ActionAt := fun l =>
      if l = 5 then [⟨10, false, 2⟩, ⟨100, false, 0⟩, ⟨150, true, 0⟩, ⟨871, false, 1⟩] else []
    (∀ l : LaneId, (as l).Perm (actionsOn cues l) ∧ (as l).Pairwise actsBefore) ∧
      (∀ c ∈ cues, (∀ l ∈ c.lane?, (s.lane l).state = .held ∧ (s.lane l).holder = some 1) ∧
        ∀ f ∈ [1000, 900], c.fits f = true) ∧
      cues.countP (fun d => d.action == .note) ≤ 16 ∧ spacingOf (s.lane 5).toLaneRecord = 40 ∧
      spacedBy 40 [1000] (actionPositions cues 5) ∧
      ¬ spacedBy 40 [1000, 900] (actionPositions cues 5) ∧
      ((testedPairs [1000, 900] (as 5)).filter fun x => x.2.2 < 40).head? = some (2, 1, 39) := by
  decide +kernel

/-! ### Run control -/

/-- H0 with books in two states, an active book and a pending action. -/
def runs (a b : BookState) (active : Option BookId) (action : PendingAction) : State :=
  hosting 0 (book a []) (book b []) none (running active action) .reset

theorem witness_SwapRequest :
    Asks 0 0x20 [2] .reset (fun _ => bookOfByte 2 = none) ∧
      Asks 0 0x20 [1]
        (hosting 0 (book .active []) (book .ready []) none ⟨.alternate, some .A, .none, 1, 1, 1⟩
          .reset) (fun s => (s.run 0).mode = .alternate) ∧
      Asks 0 0x20 [0] (runs .active .ready (some .A) .none) (fun s =>
        (s.run 0).mode = .single ∧ (s.book 0 .A).state = .active) ∧
      Asks 0 0x20 [1] (runs .active .pending (some .A) (.swapTo .B)) (fun s =>
        (s.book 0 .B).state = .pending) ∧
      Asks 0 0x20 [1] (runs .active .compiling (some .A) .none) (fun s =>
        (s.book 0 .B).state = .compiling) ∧
      Asks 1 0x20 [1] (loading 4 0) (fun s =>
        (s.book 1 .B).state = .draft ∧ (s.host 1).load.map (·.book) = some .B) ∧
      Asks 1 0x20 [0] (loading 4 0) (fun s =>
        (s.book 1 .A).state = .draft ∧ (s.host 1).load.map (·.book) ≠ some .A) ∧
      Asks 0 0x20 [1] (runs .active .ready (some .A) .halt) (fun s =>
        (s.book 0 .B).state = .ready ∧ (s.run 0).action ≠ .none) ∧
      Asks 0 0x20 [1] (runs .active .ready (some .A) .none) (fun s =>
        (s.book 0 .B).state = .ready ∧ (s.run 0).action = .none) := by decide +kernel

theorem witness_HaltRequest :
    Asks 0 0x22 []
        (hosting 0 (book .active []) (book .ready []) none ⟨.alternate, some .A, .none, 1, 1, 1⟩
          .reset) (fun s => (s.run 0).mode = .alternate) ∧
      Asks 0 0x22 [] (runs .active .pending (some .A) (.swapTo .B)) (fun s =>
        (s.run 0).mode = .single ∧ (s.run 0).action ≠ .none) ∧
      Asks 0 0x22 [] .reset (fun s => (s.run 0).action = .none ∧ (s.run 0).active = none) ∧
      Asks 0 0x22 [] (runs .active .ready (some .A) .none) (fun s =>
        (s.run 0).action = .none ∧ (s.run 0).active = some .A) := by decide +kernel

theorem witness_ModeSetRequest :
    Asks 0 0x23 [2, 1, 1] .reset anyState ∧ Asks 0 0x23 [0, 0, 0] .reset anyState ∧
      Asks 0 0x23 [1, 0, 1] .reset anyState ∧ Asks 0 0x23 [1, 1, 0] .reset anyState ∧
      Asks 0 0x23 [1, 1, 255] (runs .active .ready (some .A) .halt) (fun s =>
        (s.run 0).action ≠ .none) ∧
      Asks 0 0x23 [1, 1, 1] .reset (fun s =>
        (s.run 0).action = .none ∧ (s.run 0).active = none) ∧
      Asks 0 0x23 [1, 1, 255] (runs .ready .active (some .B) .none) (fun s =>
        (s.run 0).action = .none ∧ (s.run 0).active = some .B) := by decide +kernel

/-! ### Frame-length agreement -/

/-- A proposal of H0 for 900. -/
def proposed (voters yes : HostSet) (st : ProposalState) : Proposal := ⟨0, 900, 1, voters, yes, st⟩

/-- H1's READY book has a RISE at offset 899, which fits 900, or at 900, which does not. -/
def fitting (offset : Nat) (p : Option Proposal) : State :=
  hosting 1 (book .ready [cue (.rise 1) offset 1]) (book .draft []) none (running none .none)
    (agreeing p)

theorem witness_ProposeRequest :
    Asks 0 0x28 [0, 0, 0, 15, 1] .reset anyState ∧ Asks 0 0x28 [1, 0, 0, 1, 1] .reset anyState ∧
      Asks 0 0x28 [0, 0, 0, 16, 0] .reset anyState ∧ Asks 0 0x28 [0, 0, 0, 16, 65] .reset anyState ∧
      Asks 0 0x28 [1, 0, 0, 0, 64]
        (agreeing (some (proposed HostSet.none HostSet.none .agreed))) (fun s =>
        s.proposal.isSome = true) ∧
      Asks 0 0x28 [0, 0, 0x03, 0xE8, 1] (agreeing none) (fun s =>
        s.proposal = none ∧ 1000 = s.timebase.f) ∧
      Asks 1 0x28 [0, 0, 0x03, 0x84, 1] (fitting 900 none) (fun s =>
        s.proposal = none ∧ (s.book 1 .A).state ∈ [BookState.ready, .pending, .active] ∧
          ∃ x ∈ (s.book 1 .A).cues, x.fits 900 = false) ∧
      Asks 1 0x28 [0, 0, 0x03, 0x84, 1] (fitting 899 none) (fun s =>
        (∀ x ∈ (s.book 1 .A).cues, x.fits 900 = true) ∧ (s.lane 0).holder = some 0 ∧
          (s.lane 0).state = .held ∧ (s.port 0).held = false) ∧
      Asks 0 0x28 [0, 0, 0, 16, 64] .reset (fun s =>
        ∀ l : LaneId, (s.lane l).holder = none) := by decide +kernel

theorem witness_VoteRequest :
    let both := HostSet.ofTest fun h => h == 1 || h == 2
    let two := HostSet.ofTest fun h => h == 2
    let one := HostSet.ofTest fun h => h == 1
    Asks 1 0x29 [2] .reset anyState ∧ Asks 1 0x29 [1] .reset (fun s => s.proposal = none) ∧
      Asks 1 0x29 [1] (agreeing (some (proposed two HostSet.none .opened))) (fun _ =>
        HostSet.has two 1 = false) ∧
      Asks 1 0x29 [0] (agreeing (some (proposed both one .opened))) (fun _ =>
        HostSet.has one 1 = true) ∧
      Asks 1 0x29 [0] (agreeing (some (proposed both two .opened))) (fun _ =>
        HostSet.has both 1 = true ∧ HostSet.has two 1 = false ∧
          ∀ g : HostId, HostSet.has two g = true → HostSet.has both g = true) ∧
      Asks 1 0x29 [1] (fitting 900 (some (proposed one HostSet.none .opened))) (fun s =>
        (s.book 1 .A).state ∈ [BookState.ready, .pending, .active] ∧
          ∃ x ∈ (s.book 1 .A).cues, x.fits 900 = false) ∧
      Asks 1 0x29 [1] (fitting 899 (some (proposed both two .opened))) (fun s =>
        (∀ x ∈ (s.book 1 .A).cues, x.fits 900 = true) ∧
          ∀ g : HostId, HostSet.has both g = true → HostSet.has two g = true ∨ g = 1) ∧
      Asks 1 0x29 [1] (fitting 899 (some (proposed both HostSet.none .opened))) (fun _ =>
        HostSet.has both 2 = true ∧ HostSet.has HostSet.none 2 = false) := by decide +kernel

theorem witness_ProposalWithdrawRequest :
    let one := HostSet.ofTest fun h => h == 1
    Asks 0 0x2A [] .reset (fun s => s.proposal = none) ∧
      Asks 1 0x2A [] (agreeing (some (proposed one HostSet.none .opened))) (fun s =>
        s.proposal.map (·.proposer) = some 0) ∧
      Asks 0 0x2A [] (agreeing (some (proposed one one .agreed))) (fun s =>
        s.proposal.map (·.state) = some .agreed) ∧
      Asks 0 0x2A [] (agreeing (some (proposed one HostSet.none .opened))) (fun s =>
        s.proposal.map (·.state) = some .opened) := by decide +kernel

/-! ### Arrivals -/

theorem witness_ArrivalTick :
    arrivalNext (clock 16 14 0 .reset) ∧ arrivalNext (clock 16 0 0 .reset) ∧
      ∀ l : LaneId, ∀ n ∈ ((clock 16 14 0 .reset).lane l).check, 2 ≤ n := by decide +kernel

/-- H0 runs one cue at offset 15, and L0 has a pulse end and a pending check. -/
def driven (a : Action) (x : Lane) : State :=
  hosting 0 (book .active [cue a 15 1]) (book .draft []) none (running (some .A) .none)
    (lane 0 x (clock 18 14 0 .reset))

theorem witness_ArrivalLanes :
    let x : Lane := { heldBy 0 with pulseEnd := some 15, check := some 2 }
    arrivalNext (driven .note x) ∧ (∀ n ∈ ((driven .note x).lane 0).check, 2 ≤ n) ∧
      (atNext (driven .note x)).starting 0 = [] ∧ ((driven .note x).lane 0).pulseEnd = some 15 ∧
      ((driven .note (heldBy 0)).lane 0).pulseEnd ≠ some 15 ∧
      ((atNext (driven (.rise 0) x)).starting 0).getLast? = some (cue (.rise 0) 15 1) ∧
      ((atNext (driven (.fall 0) x)).starting 0).getLast? = some (cue (.fall 0) 15 1) ∧
      ((atNext (driven (.pulse 0 3) x)).starting 0).getLast? = some (cue (.pulse 0 3) 15 1) := by
  decide +kernel

theorem witness_CuesDueAndStarting :
    (State.reset.run 0).active = none ∧
      ((driven (.rise 0) (heldBy 0)).run 0).active = some .A ∧
      ((driven (.rise 0) (heldBy 0)).book 0 .A).runList = some [0] ∧
      cue (.pulse 0 3) 15 1 ∈ (atNext (driven (.pulse 0 3) (heldBy 0))).starting 0 ∧
      cue (.pulse 0 4) 15 1 ∉ (atNext (driven (.pulse 0 4) (heldBy 0))).starting 0 := by
  decide +kernel

theorem witness_PulseEnds :
    let x : Lane := { heldBy 0 with level := true, pulseEnd := some 15 }
    let y : Lane := { heldBy 0 with level := true, pulseEnd := some 16 }
    arrivalNext (driven .note x) ∧ ((driven .note x).lane 0).pulseEnd = some 15 ∧
      (atNext (driven .note x)).starting 0 = [] ∧
      boundaryNext (lane 0 y (clock 16 15 0 .reset)) ∧
      ((lane 0 y (clock 16 15 0 .reset)).lane 0).pulseEnd = some 16 ∧
      noneAtZero (lane 0 y (clock 16 15 0 .reset)) 0 := by decide +kernel

/-- A lane of H0 watched on L0, offered to H1 or not, with a pending check or none. -/
def watching (offered : Bool) (check : Option Nat) : Lane :=
  { if offered then offeredBy 0 1 2 else heldBy 0 with
    settings := ⟨.activeLow, 1, true, 1⟩, check := check }

theorem witness_ReadbackChecks :
    let s := driven (.rise 0) (watching true (some 1))
    laneOwnershipOk (s.lane 0).toLaneRecord ∧ (s.lane 0).settings.polarity = .activeLow ∧
      (s.lane 0).watched = true ∧ (s.lane 0).check = some 1 ∧ arrivalNext s ∧
      (∀ j : LaneId, j ≠ 0 → ∀ n ∈ (s.lane j).check, 2 ≤ n) ∧
      (∀ k : HostId, ∀ c ∈ (atNext s).dueCues k, c.action ≠ .note) ∧
      changeFirst [.drive 0] 0 = true ∧ changeFirst [.check 0, .drive 0] 0 = false ∧
      changeFirst [] 0 = false ∧
      (drivenWatched (s.lane 0) (drivenTo (atNext s) 0)).pin = false ∧ (s.lane 0).pin = true := by
  decide +kernel

theorem witness_ReadbackChecks_boundary :
    let s := clock 16 15 0 (lane 0 (watching false (some 1)) .reset)
    laneOwnershipOk (s.lane 0).toLaneRecord ∧ (s.lane 0).watched = true ∧
      (s.lane 0).check = some 1 ∧ boundaryNext s ∧ noneAtZero s 0 ∧ (s.lane 0).state = .held ∧
      (s.lane 0).pending = none ∧ (s.lane 0).pulseEnd = none ∧ s.proposal = none ∧
      (s.host 0).load = none ∧ notRunning s 0 ∧ noLaneBut s 0 0 ∧
      (1 : Word16).getLsbD 0 = (s.lane 0).pin ∧ (0 : Word16).getLsbD 0 ≠ (s.lane 0).pin := by
  decide +kernel

theorem witness_ReadbackChecks_unpending :
    let s := clock 16 15 0 (lane 0 (watching false none) .reset)
    laneOwnershipOk (s.lane 0).toLaneRecord ∧ (s.lane 0).watched = true ∧
      (s.lane 0).check = none ∧ boundaryNext s ∧ noneAtZero s 0 ∧ (s.lane 0).pending = none ∧
      (s.lane 0).pulseEnd = none ∧ (s.lane 0).state = .held := by decide +kernel

theorem witness_ReadbackChecks_offered :
    let t := clock 16 15 0 (lane 0 (watching true none) .reset)
    laneOwnershipOk (t.lane 0).toLaneRecord ∧ (t.lane 0).watched = true ∧
      (t.lane 0).check = none ∧ boundaryNext t ∧ noneAtZero t 0 ∧ (t.lane 0).pending = none ∧
      (t.lane 0).pulseEnd = none ∧ (t.lane 0).state = .offered ∧
      (t.lane 0).offer = some ⟨1, some 2⟩ ∧ t.proposal = none ∧
      ∀ k ∈ [(0 : HostId), 1], (t.host k).load = none ∧ notRunning t k ∧ noLaneBut t k 0 := by
  decide +kernel

/-! ### Boundaries -/

theorem witness_BoundaryTick :
    boundaryNext (clock 16 15 0 .reset) ∧
      (∀ p ∈ (clock 16 15 0 .reset).proposal, p.state = .agreed) ∧
      ((clock 16 15 0 .reset).host 0).load = none ∧
      boundaryNext (clock 16 15 0 (loading 4 0)) ∧
      ((clock 16 15 0 (loading 4 0)).host 1).load = some ⟨.B, 4, 0, 0, 0⟩ ∧
      ((clock 16 15 0 (lane 1 (heldBy 0) .reset)).lane 1).state ≠ .retiring := by decide +kernel

/-- H0's active book has an action on L0 and a NOTE at offset 0, at the last position of a frame. -/
def beginning (a : Action) (run : RunRecord) (b : Book) : State :=
  hosting 0 (book .active [cue a 0 1, note 0 2]) b none run (lane 0 (heldBy 0) (clock 16 15 0 .reset))

theorem witness_BoundaryTick_position0 :
    let r := running (some .A) .none
    let s := beginning (.rise 0) r (book .draft [])
    let starts (a : Action) : Option Cue :=
      ((after (.frameBoundary calm) (beginning a r (book .draft []))).starting 0).getLast?
    boundaryNext s ∧ starts (.rise 0) = some (cue (.rise 0) 0 1) ∧
      starts (.fall 0) = some (cue (.fall 0) 0 1) ∧
      starts (.pulse 0 16) = some (cue (.pulse 0 16) 0 1) ∧ s.proposal = none ∧
      (s.host 0).load = none ∧ quietLanes s 0 ∧ (s.run 0).mode = .single ∧
      (s.run 0).action = .none ∧ notesTold (after (.frameBoundary calm) s) 0 = [.cueReached 2] := by
  decide +kernel

theorem witness_BoundaryLanes :
    let s := clock 16 15 0
      (lane 1 (retiringBy 0) (lane 2 (heldBy 0) (lane 3 (offeredBy 0 1 2) (lane 4 (handoverBy 0 1)
        .reset))))
    boundaryNext s ∧ ((s.lane 0).state = .free ∧ (s.lane 0).holder = none) ∧
      (s.lane 1).state = .retiring ∧ (s.lane 2).state = .held ∧ (s.lane 3).state = .offered ∧
      (s.lane 3).offer = some ⟨1, some 2⟩ ∧ (s.lane 3).pending = none ∧
      (s.lane 3).watched = false ∧ (s.lane 4).state = .handover ∧
      (s.lane 4).offer = some ⟨1, none⟩ ∧ (s.lane 4).holder = some 0 ∧
      1 ≤ (s.lane 4).settings.settle := by decide +kernel

/-- A lane on which new settings wait, with readback on in them. -/
def staged (x : Lane) : Lane := { x with pending := some ⟨.activeLow, 1, true, 1⟩, level := true }

theorem witness_BoundaryLanes_applied :
    let s := clock 16 15 0
      (lane 1 (staged (heldBy 0)) (lane 2 (staged (offeredBy 0 1 2)) (lane 3 (handoverBy 0 1) .reset)))
    boundaryNext s ∧ (∀ l : LaneId, laneOwnershipOk (s.lane l).toLaneRecord ∧ noneAtZero s l) ∧
      ((s.lane 1).state = .held ∧ (s.lane 1).pending = some ⟨.activeLow, 1, true, 1⟩ ∧
        (s.lane 1).watched = false) ∧
      (s.lane 2).state = .offered ∧ (s.lane 2).pending = some ⟨.activeLow, 1, true, 1⟩ ∧
      (s.lane 3).state = .handover := by decide +kernel

theorem witness_BoundaryLanes_kept :
    let s := clock 16 15 0
      (lane 1 { heldBy 0 with level := true } (lane 2 { offeredBy 0 1 2 with level := true }
        (lane 3 { heldBy 0 with level := true, pulseEnd := some 16 } (lane 4
          { heldBy 0 with settings := ⟨.activeHigh, 1, true, 4⟩, level := true, check := some 2 }
          (lane 5 { retiringBy 0 with level := true, pulseEnd := some 16 } .reset)))))
    boundaryNext s ∧ (∀ l : LaneId, laneOwnershipOk (s.lane l).toLaneRecord ∧ noneAtZero s l) ∧
      ((s.lane 1).watched = false ∧ (s.lane 1).pending = none ∧ (s.lane 1).pulseEnd = none) ∧
      ((s.lane 2).watched = false ∧ (s.lane 2).offer = some ⟨1, some 2⟩) ∧
      ((s.lane 3).pulseEnd = some s.timebase.f ∧ (s.lane 3).level = true) ∧
      ((s.lane 4).watched = true ∧ (s.lane 4).check = some 2) ∧
      (laneLevelOk 15 16 (s.lane 5).toLaneRecord ∧ laneLevelOk 15 16 (s.lane 0).toLaneRecord) := by
  decide +kernel

theorem witness_BoundaryLanes_told :
    let s := clock 16 15 0 (lane 1 (retiringBy 0) .reset)
    let t := clock 16 15 0 (lane 4 (handoverBy 0 1) .reset)
    (boundaryNext s ∧ s.proposal = none ∧ (s.host 0).load = none ∧ notRunning s 0 ∧
        noLaneBut s 0 1 ∧ (s.lane 1).watched = false ∧ (s.lane 1).state = .retiring ∧
        (s.lane 1).holder = some 0) ∧
      (boundaryNext t ∧ t.proposal = none ∧ (∀ k ∈ [(0 : HostId), 1],
          (t.host k).load = none ∧ notRunning t k ∧ noLaneBut t k 4) ∧
        (t.lane 4).watched = false ∧ (t.lane 4).state = .handover ∧
        (t.lane 4).offer = some ⟨1, none⟩ ∧ (t.lane 4).holder = some 0 ∧
        1 ≤ (t.lane 4).settings.settle) := by decide +kernel

theorem witness_BoundaryRuns :
    let s := clock 16 15 0 (runs .active .pending (some .A) (.swapTo .B))
    let t := clock 16 15 0 (runs .active .ready (some .A) .halt)
    let u := clock 16 15 0
      (hosting 0 (book .active []) (book .ready []) none ⟨.alternate, some .A, .none, 2, 3, 2⟩ .reset)
    (boundaryNext s ∧ (∀ p ∈ s.proposal, p.state = .agreed) ∧ (s.run 0).mode = .single ∧
        (s.run 0).action = .swapTo .B ∧ (s.run 0).active ≠ some .B ∧
        (s.host 0).load.map (·.book) ≠ some .B ∧ (s.run 0).active = some .A) ∧
      (boundaryNext t ∧ (t.run 0).mode = .single ∧ (t.run 0).action = .halt ∧
        (t.run 0).active = some .A) ∧
      (boundaryNext (clock 16 15 0 .reset) ∧ ((clock 16 15 0 .reset).run 0).action = .none) ∧
      (boundaryNext u ∧ (u.run 0).mode = .alternate ∧ 2 ≤ (u.run 0).turn ∧
        (u.run 0).active ≠ none) := by decide +kernel

theorem witness_BoundaryRuns_told :
    let s := clock 16 15 0 (runs .active .pending (some .A) (.swapTo .B))
    let t := clock 16 15 0 (runs .active .ready (some .A) .halt)
    (s.proposal = none ∧ (s.host 0).load = none ∧ quietLanes s 0 ∧
        (s.run 0).mode = .single ∧ (s.book 0 .A).fits (nextF s) = true ∧
        (s.run 0).action = .swapTo .B ∧ (s.run 0).active = some .A) ∧
      (t.proposal = none ∧ (t.host 0).load = none ∧ quietLanes t 0 ∧
        (t.run 0).mode = .single ∧ (t.book 0 .A).fits (nextF t) = true ∧
        (t.run 0).action = .halt ∧ (t.run 0).active = some .A) := by decide +kernel

theorem witness_BoundaryRuns_note :
    let s := beginning .note (running (some .A) (.swapTo .B)) (book .pending [note 0 3])
    boundaryNext s ∧ s.proposal = none ∧ (s.host 0).load = none ∧ quietLanes s 0 ∧
      (s.run 0).mode = .single ∧ (s.book 0 .A).fits (nextF s) = true ∧
      (s.run 0).action = .swapTo .B ∧
      notesTold (after (.frameBoundary calm) s) 0 = [.cueReached 3] := by decide +kernel

theorem witness_AgreedLengthTaken :
    let s := (agreeing (some (proposed HostSet.none HostSet.none .agreed))).setTimebase
      ⟨1000, 999, 41, some 900, false⟩
    boundaryNext s ∧ s.proposal.map (·.state) = some .agreed ∧ s.timebase.nextLength = some 900 ∧
      (s.host 3).load = none ∧ (s.run 3).active = none ∧ (s.run 3).action = .none ∧
      ∀ l : LaneId, (s.lane l).holder ≠ some 3 ∧ (s.lane l).offer.map (·.target) ≠ some 3 := by
  decide +kernel

theorem witness_OfferExpires :
    let s := clock 16 15 0 (lane 15 (offeredBy 0 2 1) .reset)
    boundaryNext s ∧ (s.lane 15).state = .offered ∧ (s.lane 15).offer = some ⟨2, some 1⟩ := by
  decide +kernel

theorem witness_OfferExpires_told :
    let s := clock 16 15 0 (lane 15 (offeredBy 0 2 1) .reset)
    (s.lane 15).holder = some 0 ∧ (s.lane 15).holder ≠ some 2 ∧ s.proposal = none ∧
      (∀ g ∈ [(0 : HostId), 2], (s.host g).load = none ∧ notRunning s g ∧ noLaneBut s g 15) ∧
      (s.lane 15).watched = false ∧ (s.lane 15).pending = none := by decide +kernel

theorem witness_LoadTimesOut :
    let s := clock 16 15 0
      (hosting 1 (book .draft []) (book .draft []) (some ⟨.B, 4, 0, 0, 7⟩) (running none .none) .reset)
    boundaryNext s ∧ (s.host 1).load = some ⟨.B, 4, 0, 0, 7⟩ ∧ s.proposal = none ∧
      notRunning s 1 ∧ noLaneOf s 1 := by decide +kernel

theorem witness_AlternationTurns :
    let r : RunRecord := ⟨.alternate, some .A, .none, 2, 3, 1⟩
    let s := clock 16 15 0 (hosting 0 (book .active []) (book .ready []) none r .reset)
    let t := clock 16 15 0 (hosting 0 (book .active []) (book .draft []) none r .reset)
    (boundaryNext s ∧ (∀ p ∈ s.proposal, p.state = .agreed) ∧ (s.run 0).mode = .alternate ∧
        (s.run 0).turn = 1 ∧ (s.run 0).active = some .A ∧ (s.book 0 .B).state = .ready ∧
        (s.host 0).load = none ∧ s.proposal = none ∧ quietLanes s 0 ∧
        (s.book 0 .A).fits (nextF s) = true) ∧
      (boundaryNext t ∧ (t.run 0).mode = .alternate ∧ (t.run 0).turn = 1 ∧
        (t.book 0 .B).state ≠ .ready ∧ t.proposal = none ∧ (t.host 0).load = none ∧
        quietLanes t 0) := by decide +kernel

/-- H0 proposed 900; H1 and H2 hold a lane and H3 none. The last position of a frame. -/
def voting (window : Nat) (voters : HostSet) : State :=
  clock 16 15 0 (agreeing (some ⟨0, 900, window, voters, HostSet.none, .opened⟩))

theorem witness_ProposalExpires :
    let s := voting 1 (HostSet.ofTest (· == 1))
    let t := voting 2 (HostSet.ofTest fun h => h == 1 || h == 3)
    (boundaryNext s ∧ ownershipKept s ∧ (∀ k : HostId, undisturbed s k) ∧
        s.proposal.map (·.window) = some 1 ∧ s.proposal.map (·.state) = some .opened ∧
        ∀ p ∈ s.proposal, (withVotersLeft s p).yes ≠ (withVotersLeft s p).voters) ∧
      (boundaryNext t ∧ ownershipKept t ∧ (∀ k : HostId, undisturbed t k) ∧
        t.proposal.map (·.window) = some 2 ∧ t.proposal.map (·.state) = some .opened ∧
        ∀ p ∈ t.proposal, HostSet.has p.voters 3 = true ∧
          HostSet.has (withVotersLeft t p).voters 3 = false ∧
          (withVotersLeft t p).yes ≠ (withVotersLeft t p).voters) := by decide +kernel

/-- H3, the one voter, holds no lane; H1's READY book fits 18 and not 17. -/
theorem witness_ProposalExpires_agreed :
    let p : Proposal := ⟨0, 17, 1, HostSet.ofTest (· == 3), HostSet.none, .opened⟩
    let b : Book := book .ready [cue (.rise 1) 17 1]
    let s := clock 18 17 0 (hosting 1 b (book .draft []) none (running none .none) (agreeing (some p)))
    boundaryNext s ∧ ownershipKept s ∧ s.proposal = some p ∧ undisturbed s 1 ∧
      (withVotersLeft s p).yes = (withVotersLeft s p).voters ∧ (s.book 1 .A).state = .ready ∧
      (cue (.rise 1) 17 1).fits 18 = true ∧ (cue (.rise 1) 17 1).fits p.newF = false := by
  decide +kernel

/-! ### Ports and the link -/

/-- Three requests wait at port 0. -/
def crowded : State :=
  State.reset.setPort 0 { State.reset.port 0 with inbound := List.replicate 3 ⟨1, 1, []⟩ }

theorem witness_RequestFrameAdmission :
    let long := frame 0x01 [5, 0x02, 49]
    let wrong := frame 0x01 [5, 0x02, 2, 0, 1, 0x28]
    let right := frame 0x01 [5, 0x02, 2, 0, 1, 0x29]
    portFree State.reset 0 ∧ 56 ≤ right.length ∧
      kindOf (right.getD 0 0) (right.getD 1 0) = .request ∧
      kindOf (long.getD 0 0) (long.getD 1 0) = .request ∧ 48 < (long.getD 4 0).toNat ∧
      (wrong.getD 4 0).toNat ≤ 48 ∧ crc8 ((wrong.drop 2).take 5) ≠ wrong.getD 7 0 ∧
      crc8 ((right.drop 2).take 5) = right.getD 7 0 ∧
      (portFree crowded 0 ∧
        3 ≤ (crowded.port 0).inbound.length + (crowded.port 0).replies.length) := by
  decide +kernel

/-- Port 0 with the fall of CS_n taken, and with byte 1 taken as well. -/
def selected (c : TxnPart → Instr) : State := after (c .select) waiting

theorem witness_RequestFrameAdmission_moments :
    let f := frame 0x01 [5, 0x02, 2, 0, 1, 0x29]
    let c := fun part => Instr.requestFrame 0 part f
    let t := after (c .control) (selected c)
    portFree waiting 0 ∧ 2 ≤ f.length ∧ byte1Taken ((selected c).port 0).link = false ∧
      (chosen (selected c) 0 0x01 0xFE).map (·.kind) = some .request ∧
      (chosen t 0 0x01 0xFE).map (·.kind) = some .request ∧
      (chosen t 0 0x01 0xFE).map (·.offered) = some .notice := by decide +kernel

theorem witness_NullFrame_moments :
    let f := frame 0x80 []
    let c := fun part => Instr.nullFrame 0 part f
    portFree waiting 0 ∧ byte1Taken ((selected c).port 0).link = false ∧
      (chosen (selected c) 0 0x80 0x7F).map (·.kind) = some .null ∧
      (chosen (after (c .control) (selected c)) 0 0x80 0x7F).map (·.kind) = some .null := by
  decide +kernel

theorem witness_NullFrame :
    let f := frame 0x83 []
    let g : List Byte := 0x01 :: 0x01 :: List.replicate 54 0
    portFree State.reset 0 ∧ 56 ≤ f.length ∧ kindOf (f.getD 0 0) (f.getD 1 0) = .null ∧
      56 ≤ g.length ∧ kindOf (g.getD 0 0) (g.getD 1 0) = .null := by decide +kernel

theorem witness_ShortTransaction :
    let c := fun part => Instr.shortTransaction 0 part [0x80, 0x7F]
    portFree State.reset 3 ∧ ([] : List Byte).length < 2 ∧ ([1] : List Byte).length < 2 ∧
      2 ≤ ([1, 2] : List Byte).length ∧ (List.replicate 55 (0 : Byte)).length < 56 ∧
      fixedBytes ((selected c).port 0).link = some (0, 0x70) ∧
      byte1Taken ((after (c .control) (selected c)).port 0).link = true ∧
      (chosen (selected c) 0 0x80 0x7F).isSome = true ∧
      (chosen (after (c .control) (selected c)) 0 0 0).isSome = true := by decide +kernel

theorem witness_AckRemovesMessage :
    (0x80 : Byte).getLsbD 7 = true ∧ portFree waiting 0 ∧
      ((after (.nullFrame 0 .select []) waiting).port 0).link = .selected 0 0x70 := by decide +kernel

theorem witness_PortResets :
    let f := frame 0x02 []
    let s := lane 1 (heldBy 0) waiting
    let c := fun part => Instr.portReset 0 part f true
    ownershipKept s ∧ 56 ≤ f.length ∧
      (chosen s 0 (f.getD 0 0) (f.getD 1 0)).map (·.kind) = some .portReset ∧
      (chosen (after (c .select) s) 0 (f.getD 0 0) (f.getD 1 0)).map (·.kind) = some .portReset ∧
      (chosen (after (c .control) s) 0 0 0).map (·.kind) = some .portReset ∧
      s.rstN = true ∧ (s.port 0).held = false ∧ (s.port 0).link = .idle := by decide +kernel

/-- H0 has proposed, offers a lane to H1 and is offered one by H2: its reset tells both. -/
theorem witness_PortResets_told :
    let p : Proposal := ⟨0, 900, 3, HostSet.ofTest (· == 1), HostSet.none, .opened⟩
    let s := lane 4 (offeredBy 0 1 2) (lane 5 (handoverBy 2 0) (agreeing (some p)))
    ownershipKept s ∧ resetEndsOffers s 0 1 = [.offerEnded 4 .reset] ∧
      resetEndsOffers s 0 2 = [.offerEnded 5 .reset] ∧
      resetEndsProposal s 0 1 = [.proposalEnded .withdrawn] ∧ resetEndsProposal s 0 2 = [] := by
  decide +kernel

theorem witness_HeldPort :
    ((after (.prstNLow 0 0 false) waiting).port 0).held = true ∧
      ((after (.prstNLow 0 0 false) waiting).port 0).link = .idle := by decide +kernel

theorem witness_HeldPort_moments :
    let s := after (.prstNLow 0 0 false) waiting
    let t := after (.nullFrame 0 .select []) s
    takenUp (s.port 0).link = false ∧ (t.port 0).held = true ∧ (t.port 0).link = .lost [] ∧
      takenUp (t.port 0).link = false := by decide +kernel

/-- RST_n has fallen with a transaction of P0 in progress, at byte 0, and after byte 1. -/
theorem witness_HeldPort_rstN :
    let s := after .powerOnReset (after (.nullFrame 0 .select []) waiting)
    let t := after .powerOnReset (after (.nullFrame 0 .control [0x00, 0xFF]) waiting)
    (s.rstN = false ∧ takenUp (s.port 0).link = false ∧ (s.port 0).link = .lost []) ∧
      t.rstN = false ∧ takenUp (t.port 0).link = false := by decide +kernel

theorem witness_abandons :
    let s := after (.nullFrame 0 .select []) waiting
    let t := after (.nullFrame 0 .control [0x00, 0xFF]) waiting
    takenUp (waiting.port 0).link = false ∧ (fixedBytes (s.port 0).link).isSome = true ∧
      (chosenIn (t.port 0).link).isSome = true ∧ t.rstN = true ∧ (t.port 0).held = false := by
  decide +kernel

theorem witness_ReturnFrameLayout :
    ([] : List Byte).length ≤ 52 ∧ (List.replicate 52 (0 : Byte)).length ≤ 52 ∧
      waiting.attn 0 = true ∧ State.reset.attn 0 = false := by decide +kernel

/-- Fifteen notices, no two neighbours of one key. -/
def fifteen : List Notice :=
  (List.range 15).map fun i => ⟨.cueReached (BitVec.ofNat 16 i), 0, 1, 0⟩

theorem witness_NoticeQueueSteps :
    let n : Notice := ⟨.cueReached 14, 5, 1, 0⟩
    let m : Notice := ⟨.halted .A, 5, 1, 0⟩
    let o : Notice := ⟨.overflow 1, 5, 1, 0⟩
    (n.isOverflow = false ∧ n.repeats = 1 ∧ m.isOverflow = false) ∧
      (fifteen.filter fun x => !x.isOverflow).length ≤ 15 ∧ fifteen.length = 15 ∧
      (∀ x ∈ (fifteen ++ [o]).dropLast, x.isOverflow = false) ∧
      fifteen.getLast?.map (fun y => y.body.matches n.body) = some true ∧
      fifteen.getLast?.map (fun y => y.body.matches m.body) = some false ∧
      (fifteen ++ [o]).getLast?.bind overflowCount = some 1 := by decide +kernel

theorem witness_NoticeQueueSteps_merged :
    let n : Notice := ⟨.halted .A, 5, 1, 0⟩
    let p : Port := { Port.powerOn with notices := [n], ack := .notice }
    let q := (p.select true).control 0x00 0xFF
    n.isOverflow = false ∧ p.notices.getLast?.map (fun y => y.body.matches n.body) = some true ∧
      p.ack = .notice ∧ (chosenIn q.link).map (·.2.2) = some .notice ∧ q.notices.length = 1 ∧
      2 ≤ fifteen.length := by decide +kernel

theorem witness_NoticeQueueSteps_keys :
    keysAgree (.offerEnded 3 .reset) (.offerEnded 3 .fault) ∧
      ¬ keysAgree (.offerEnded 3 .reset) (.offerEnded 2 .reset) ∧
      ¬ keysAgree (.overflow 1) (.overflow 1) := by decide +kernel

/-! ### Laws: a state that keeps them, and a step from it -/

theorem witness_StepKeepsPorts :
    (creditsKept waiting ∧ noticesKept waiting ∧ ackNamesWaiting waiting ∧ heldPortsIdle waiting) ∧
      ∃ t, step (waiting.setPending [.nullFrame 0 .finish (frame 0x00 [])]) = .next t :=
  ⟨by decide +kernel, _, rfl⟩

/-- H1 has yet to vote, at the last position of a frame. -/
def closing : State :=
  clock 16 15 0 (agreeing (some (proposed (HostSet.ofTest (· == 1)) HostSet.none .opened)))

theorem witness_StepKeepsAgreement :
    (timebaseKept closing ∧ proposalKept closing) ∧
      ∃ t, step (closing.setPending [.frameBoundary calm]) = .next t :=
  ⟨by decide +kernel, _, rfl⟩

/-- Two lanes on their way to H1, at the last position of a frame. -/
def passing : State :=
  clock 16 15 0 (lane 3 (offeredBy 0 1 2) (lane 4 (handoverBy 0 1) .reset))

theorem witness_StepKeepsLanes :
    (ownershipKept passing ∧ faultsKept passing ∧ checksKept passing) ∧
      ∃ t, step (passing.setPending [.frameBoundary calm]) = .next t :=
  ⟨by decide +kernel, _, rfl⟩

theorem witness_StepKeepsLevels :
    (levelsKept (driven (.pulse 0 3) (heldBy 0)) ∧ cuesKept (driven (.pulse 0 3) (heldBy 0))) ∧
      ∃ t, step ((driven (.pulse 0 3) (heldBy 0)).setPending [.arrival ⟨0, []⟩]) = .next t :=
  ⟨by decide +kernel, _, rfl⟩

theorem witness_StepKeepsBooks :
    (slotsKept (spacingCase 850) ∧ jobsKept (spacingCase 850) ∧ runsKept (spacingCase 850) ∧
        runListsKept (spacingCase 850)) ∧
      ∃ t, step ((spacingCase 850).setPending [.compileCompletion]) = .next t :=
  ⟨⟨by decide +kernel, by decide +kernel, by decide +kernel, by decide +kernel⟩, _, rfl⟩

theorem witness_StepKeepsFit :
    (slotsKept (fitting 899 none) ∧ jobsKept (fitting 899 none) ∧ runsKept (fitting 899 none) ∧
        runListsKept (fitting 899 none)) ∧
      (timebaseKept (fitting 899 none) ∧ proposalKept (fitting 899 none) ∧
        fitsKept (fitting 899 none)) ∧
      ∃ t, step ((fitting 899 none).setPending [.compileCompletion]) = .next t :=
  ⟨⟨by decide +kernel, by decide +kernel, by decide +kernel, by decide +kernel⟩,
    ⟨by decide +kernel, by decide +kernel, by decide +kernel⟩, _, rfl⟩

end Sys2Proof.Tests
end

section
/-!
PROOFS. The form in which a request's statement is proved: from the owning block's answer alone
(R168, R169, R174), and the payload of one lane.
-/

namespace Sys2Proof.Machine

open Sys2Proof.Safety

/-! ### From the owner's answer to the statement about the command -/

/-- A taken request is answered as its owner's answer says, where that answer changes no port and no
pin. -/
theorem answers_of_take {c : Instr} {s u v : State} {h : HostId} {seq code : Byte}
    {payload : List Byte} {act : State → Answer} {o : ReplyCode} {r : Result}
    (run : exec c s = .next (s.take h seq code payload act))
    (next : s.nextRequest = some (h, ⟨seq, code, payload⟩))
    (answer : act (s.popRequest h) = ⟨o, r, v⟩)
    (pins : samePins (s.popRequest h) v) (blocks : sameBlocks v u)
    (ports : v.ports = (s.popRequest h).ports) :
    answers c s h ⟨seq, code, payload⟩ o r nobody u := by
  refine ⟨_, run, State.take_requestDone next ?_ ?_ ?_ ?_ fun g => ?_⟩ <;> rw [answer]
  · exact pins
  · exact blocks
  · exact congrArg plainPort ((State.ports_eq_iff _ _).1 ports g)

/-- A taken request whose owner answers with a refusal leaves a reply and nothing else. -/
theorem refuses_of_take {c : Instr} {s : State} {h : HostId} {seq code : Byte}
    {payload : List Byte} {act : State → Answer} {o : ReplyCode} {r : Result}
    (run : exec c s = .next (s.take h seq code payload act))
    (next : s.nextRequest = some (h, ⟨seq, code, payload⟩))
    (answer : act (s.popRequest h) = (s.popRequest h).refuseWith (o, r)) :
    refuses c s h ⟨seq, code, payload⟩ o r :=
  answers_of_take run next answer ⟨rfl, rfl, rfl, rfl⟩ ⟨rfl, rfl, rfl, rfl, rfl⟩ rfl

/-! ### A payload of one lane -/

theorem laneOfByte_eq_none {x : Byte} (above : 15 < x.toNat) : laneOfByte x = none :=
  dif_neg (by omega)

theorem laneOfByte_eq_some {x : Byte} {l : LaneId} (names : x.toNat = l.val) :
    laneOfByte x = some l := by
  unfold laneOfByte
  rw [dif_pos (by omega)]
  exact congrArg some (Fin.ext names)

theorem State.onLane_above (s : State) {x : Byte} (f : LaneId → Answer) (above : 15 < x.toNat) :
    s.onLane [x] f = s.refuse .badArgument := by
  simp [State.onLane, laneOfByte_eq_none above]

theorem State.onLane_named (s : State) {x : Byte} {l : LaneId} (f : LaneId → Answer)
    (names : x.toNat = l.val) : s.onLane [x] f = f l := by
  simp [State.onLane, laneOfByte_eq_some names]

end Sys2Proof.Machine
end

section
/-!
PROOFS. CLAIM: the grant in one write, the first named lane not FREE, and the settlement of O7
(R21, R22).
-/

namespace Sys2Proof.Machine

open Sys2Proof.Safety

/-! ### The grant -/

/-- A grant writes each named lane once, in whatever order and however often it is named. -/
theorem State.grant_eq (s : State) (h : HostId) (ls : List LaneId) :
    s.grant h ls =
      s.setLanes (Vector.ofFn fun k => if k ∈ ls then (s.lane k).granted h else s.lane k) := by
  induction ls generalizing s with
  | nil =>
    have unchanged : s.lanes = Vector.ofFn fun k : LaneId => s.lane k := by
      ext1 i hi
      simp [State.lane]
    simp only [List.not_mem_nil, if_false, ← unchanged]
    rfl
  | cons l ls ih =>
    have unfoldOne : s.grant h (l :: ls) = (s.setLane l ((s.lane l).granted h)).grant h ls := rfl
    rw [unfoldOne, ih]
    refine congrArg (fun f : LaneId → Lane => s.setLanes (Vector.ofFn f)) (funext fun k => ?_)
    by_cases e : k = l
    · subst e
      by_cases hk : k ∈ ls <;> simp [hk, Lane.granted]
    · simp [e]

/-! ### The lanes a mask names -/

@[simp] theorem mem_lanesOfMask (m : BitVec 16) (l : LaneId) :
    l ∈ lanesOfMask m ↔ m.getLsbD l.val = true := by simp [lanesOfMask]

theorem lanesOfMask_ascending (m : BitVec 16) : (lanesOfMask m).Pairwise (· < ·) :=
  (List.pairwise_lt_finRange 16).filter _

theorem maskOfBytes_eq_zero_iff (hi lo : Byte) : maskOfBytes hi lo = 0 ↔ hi = 0 ∧ lo = 0 := by
  constructor
  · intro e
    have high : (maskOfBytes hi lo).extractLsb' 8 8 = hi := BitVec.extractLsb'_append_eq_left
    have low : (maskOfBytes hi lo).extractLsb' 0 8 = lo := BitVec.extractLsb'_append_eq_right
    rw [e] at high low
    exact ⟨high.symm, low.symm⟩
  · rintro ⟨rfl, rfl⟩
    rfl

/-- In an ascending list the search finds the least element that passes. -/
theorem find?_eq_some_of_least {α : Type} [LinearOrder α] {p : α → Bool} {as : List α} {a : α}
    (ascending : as.Pairwise (· < ·)) (mem : a ∈ as) (passes : p a = true)
    (least : ∀ b ∈ as, b < a → p b = false) : as.find? p = some a := by
  induction as with
  | nil => cases mem
  | cons c as ih =>
    obtain ⟨below, ascending⟩ := List.pairwise_cons.1 ascending
    rcases List.mem_cons.1 mem with rfl | mem
    · exact List.find?_cons_of_pos passes
    · rw [List.find?_cons_of_neg (by simp [least c List.mem_cons_self (below a mem)])]
      exact ih ascending mem fun b hb => least b (List.mem_cons_of_mem c hb)

/-! ### The answer -/

theorem claimLanes_zero (h : HostId) (s : State) : claimLanes h 0 s = s.refuse .badArgument := rfl

/-- CLAIM of lanes that are all FREE grants them (R21). -/
theorem claimLanes_granted {h : HostId} {m : BitVec 16} {s : State} (nonempty : m ≠ 0)
    (free : ∀ l : LaneId, m.getLsbD l.val = true → (s.lane l).state = .free) :
    claimLanes h m s = ⟨.done, .lanes m, s.grant h (lanesOfMask m)⟩ := by
  have search : (lanesOfMask m).find? (fun l => (s.lane l).state != .free) = none := by
    simpa using free
  simp only [claimLanes, if_neg nonempty, search]

/-- CLAIM with a named lane not FREE is refused for the first such lane (R22). -/
theorem claimLanes_refused {h : HostId} {m : BitVec 16} {s : State} {l : LaneId}
    (named : m.getLsbD l.val = true) (taken : (s.lane l).state ≠ .free)
    (first : ∀ k : LaneId, k < l → m.getLsbD k.val = true → (s.lane k).state = .free) :
    claimLanes h m s = s.refuseWith (claimRefusal h l (s.lane l).toLaneRecord) := by
  have nonempty : m ≠ 0 := by
    rintro rfl
    simp at named
  have search : (lanesOfMask m).find? (fun k => (s.lane k).state != .free) = some l :=
    find?_eq_some_of_least (lanesOfMask_ascending m) (by simpa using named) (by simpa using taken)
      fun k hk below => by simpa using first k below (by simpa using hk)
  simp only [claimLanes, if_neg nonempty, search]

theorem claimRefusal_retiring {h : HostId} {l : LaneId} {x : LaneRecord}
    (retiring : x.state = .retiring) : claimRefusal h l x = (.retiring, .lane l) := by
  simp [claimRefusal, retiring]

theorem claimRefusal_holder {h g : HostId} {l : LaneId} {x : LaneRecord}
    (state : x.state ≠ .retiring) (holds : x.holder = some g) :
    claimRefusal h l x = if g = h then (.alreadyHeld, .lane l) else (.held, .laneHost l g) := by
  unfold claimRefusal
  split
  · contradiction
  · simp_all
  · simp_all

theorem exec_claim (h : HostId) (seq hi lo : Byte) (s : State) :
    exec (.claim h seq [hi, lo]) s =
      .next (s.take h seq 0x02 [hi, lo] (claimLanes h (maskOfBytes hi lo))) := rfl

/-- Settles O7: the refusal of the empty mask, the grant as one write of the lanes, and the refusal
for the least named lane that is not FREE. -/
theorem claimRequest : Obligations.ClaimRequest := by
  intro h seq hi lo s next
  have run := exec_claim h seq hi lo s
  refine ⟨fun empty => ?_, fun nonempty free => ?_, fun l named taken first => ?_⟩
  · refine refuses_of_take run next ?_
    rw [(maskOfBytes_eq_zero_iff hi lo).2 empty]
    exact claimLanes_zero h _
  · refine answers_of_take run next
      (claimLanes_granted (mt (maskOfBytes_eq_zero_iff hi lo).1 nonempty) free) ?_ ?_ ?_ <;>
      rw [State.grant_eq]
    · exact ⟨rfl, rfl, rfl, rfl⟩
    · refine ⟨rfl, ?_, rfl, rfl, rfl⟩
      simp [Lane.granted, maskOfBytes]
    · rfl
  · have answer : claimLanes h (maskOfBytes hi lo) (s.popRequest h) =
        (s.popRequest h).refuseWith (claimRefusal h l (s.lane l).toLaneRecord) :=
      claimLanes_refused named taken first
    refine ⟨fun retiring => ?_, fun state holds => ?_, fun state g holds other => ?_⟩ <;>
      refine refuses_of_take run next ?_ <;> rw [answer]
    · rw [claimRefusal_retiring retiring]
    · rw [claimRefusal_holder state holds, if_pos rfl]
    · rw [claimRefusal_holder state holds, if_neg other]

end Sys2Proof.Machine
end

section
/-!
PROOFS. RELEASE: what becomes of a lane its holder gives up, each row of the table, and the
settlement of O8 (R24, R25).
-/

namespace Sys2Proof.Machine

open Sys2Proof.Safety

/-- A lane its holder gives up: RETIRING, and inactive unless a pulse is running, with a check where
the level falls under an unlatched readback (R25, R137). -/
theorem Lane.retire_of_holder {x : Lane} {h : HostId} (holds : x.holder = some h) :
    x.retire =
      if x.pulseEnd.isNone then
        { x with
          state := .retiring, level := false
          check :=
            if x.level && x.settings.readback && !x.faultFlag then some x.settings.settle
            else x.check }
      else { x with state := .retiring } := by
  rw [Lane.retire_eq]
  split
  case isTrue noPulse =>
    have pulseEnd : x.pulseEnd = none := by simpa using noPulse
    simp [Lane.watched, holds, pulseEnd, and_assoc]
  case isFalse => rfl

theorem releaseLane_notHolder {h : HostId} {l : LaneId} {s : State}
    (foreign : (s.lane l).state = .free ∨ (s.lane l).holder ≠ some h) :
    releaseLane h l s = s.refuse .notHolder := by
  unfold releaseLane
  by_cases holds : (s.lane l).holder = some h
  · have free : (s.lane l).state = .free := foreign.resolve_right (· holds)
    simp [free]
  · simp [holds]

theorem releaseLane_held {h : HostId} {l : LaneId} {s : State}
    (holds : (s.lane l).holder = some h) (held : (s.lane l).state = .held) :
    releaseLane h l s = ⟨.done, .lane l, s.setLane l (s.lane l).retire⟩ := by
  simp [releaseLane, holds, held]

/-- The outcome of R24's rows that refuse the lane's holder, by the lane's state. -/
def releaseRefusal : LaneState → Option ReplyCode
  | .free => some .notHolder
  | .retiring => some .retiring
  | .offered => some .offered
  | .handover => some .handover
  | .held => none

theorem releaseLane_refused {h : HostId} {l : LaneId} {s : State} {o : ReplyCode}
    (holds : (s.lane l).holder = some h) (row : releaseRefusal (s.lane l).state = some o) :
    releaseLane h l s = s.refuse o := by
  cases state : (s.lane l).state with
  | held => simp [releaseRefusal, state] at row
  | free | retiring | offered | handover =>
    obtain rfl : _ = o := by simpa [releaseRefusal, state] using row
    simp [releaseLane, holds, state]

theorem exec_release (h : HostId) (seq x : Byte) (s : State) :
    exec (.release h seq [x]) s =
      .next (s.take h seq 0x03 [x] fun t => t.onLane [x] fun l => releaseLane h l t) := rfl

/-- Settles O8: each row of R24's table on the named lane, and the lane given up as R25 says. -/
theorem releaseRequest : Obligations.ReleaseRequest := by
  intro h seq x s next
  have run := exec_release h seq x s
  refine ⟨fun above => refuses_of_take run next (State.onLane_above _ _ above), fun l names => ?_⟩
  have refused {o : ReplyCode}
      (answer : releaseLane h l (s.popRequest h) = (s.popRequest h).refuse o) :
      refuses (.release h seq [x]) s h ⟨seq, 0x03, [x]⟩ o .none :=
    refuses_of_take run next ((State.onLane_named _ _ names).trans answer)
  refine ⟨fun foreign => refused (releaseLane_notHolder foreign), fun holds =>
    ⟨fun state => ?_, fun state => ?_, fun state => ?_, fun held => ?_⟩⟩
  · exact refused (releaseLane_refused holds (congrArg releaseRefusal state))
  · exact refused (releaseLane_refused holds (congrArg releaseRefusal state))
  · exact refused (releaseLane_refused holds (congrArg releaseRefusal state))
  · rw [← Lane.retire_of_holder holds]
    exact answers_of_take run next
      ((State.onLane_named _ _ names).trans (releaseLane_held holds held))
      ⟨rfl, rfl, rfl, rfl⟩ ⟨rfl, rfl, rfl, rfl, rfl⟩ rfl

end Sys2Proof.Machine
end

section
/-!
PROOFS. What the editing requests share: an index of two bytes, the gate before every edit (R47), a
payload of one book, and the form in which an accepted edit's statement is proved (R41, R43, R46).
-/

namespace Sys2Proof.Machine

open Sys2Proof.Safety

theorem ofBytes_pair (hi lo : Byte) : ofBytes [hi, lo] = hi.toNat * 256 + lo.toNat := by
  simp [ofBytes]

theorem State.gated_refused {s : State} {h : HostId} {b : BookId} {o : ReplyCode} {f : Answer}
    (gate : (s.host h).gate b = some o) : s.gated h b f = s.refuse o := by
  simp only [State.gated, gate]

theorem State.gated_passed {s : State} {h : HostId} {b : BookId} {f : Answer}
    (gate : (s.host h).gate b = none) : s.gated h b f = f := by
  simp only [State.gated, gate]

/-- An edit that leaves the slot count as it was changes the book alone. -/
theorem HostRecord.setBook_setSlots_self (r : HostRecord) (b : BookId) (x : Book) :
    (r.setBook b x).setSlots r.slots = r.setBook b x := by cases b <;> rfl

/-- A taken request whose owner answers with an edit leaves the book DRAFT with the edited list,
without run list or report, and the host with the edit's slot count (R41, R43, R46). -/
theorem answers_of_edit {c : Instr} {s : State} {h : HostId} {seq code : Byte}
    {payload : List Byte} {act : State → Answer} {o : ReplyCode} {r : Result} {b : BookId}
    {cues : List Cue} {slots : Nat}
    (run : exec c s = .next (s.take h seq code payload act))
    (next : s.nextRequest = some (h, ⟨seq, code, payload⟩))
    (answer : act (s.popRequest h) = ⟨o, r, (s.popRequest h).editBook h b cues slots⟩) :
    answers c s h ⟨seq, code, payload⟩ o r nobody
      (s.setHost h (((s.host h).setBook b ⟨cues, .draft, none, none⟩).setSlots slots)) :=
  answers_of_take run next answer ⟨rfl, rfl, rfl, rfl⟩ ⟨rfl, rfl, rfl, rfl, rfl⟩ rfl

theorem State.onBook_misread (s : State) {x : Byte} (f : BookId → Answer)
    (misread : bookOfByte x = none) : s.onBook [x] f = s.refuse .badArgument := by
  simp only [State.onBook, misread]

theorem State.onBook_read (s : State) {x : Byte} {b : BookId} (f : BookId → Answer)
    (book : bookOfByte x = some b) : s.onBook [x] f = f b := by
  simp only [State.onBook, book]

end Sys2Proof.Machine
end

section
/-!
PROOFS. CUE PUT: each row of the index table, and the settlement of O16 (R47, R48, R56).
-/

namespace Sys2Proof.Machine

open Sys2Proof.Safety

section Put

variable {h : HostId} {b : BookId} {i : Nat} {c : Cue} {s : State}

theorem putCue_gated {o : ReplyCode} (gate : (s.host h).gate b = some o) :
    putCue h b i c s = s.refuse o := State.gated_refused gate

/-- An index below the length replaces the cue there (R48). -/
theorem putCue_replaced (gate : (s.host h).gate b = none) (below : i < (s.book h b).cues.length) :
    putCue h b i c s =
      ⟨.done, .book .draft (s.book h b).cues.length,
        s.editBook h b ((s.book h b).cues.set i c) (s.host h).slots⟩ := by
  rw [putCue, State.gated_passed gate]
  simp only [if_pos below, State.edited, List.length_set]

/-- An index above the length, or at the length of a full book, is out of range (R48). -/
theorem putCue_outOfRange (gate : (s.host h).gate b = none)
    (outside : (s.book h b).cues.length < i ∨
      (i = (s.book h b).cues.length ∧ 512 ≤ (s.book h b).cues.length)) :
    putCue h b i c s = s.refuse .badArgument := by
  have notBelow : ¬ i < (s.book h b).cues.length := by omega
  have noAppend : ¬ (i = (s.book h b).cues.length ∧ (s.book h b).cues.length < maxBook) := by
    unfold maxBook
    omega
  rw [putCue, State.gated_passed gate]
  simp only [if_neg notBelow, if_neg noAppend]

/-- An index at the length of a book with room appends, where the slot test passes (R48, R56). -/
theorem putCue_atLength (gate : (s.host h).gate b = none) (atLength : i = (s.book h b).cues.length)
    (room : (s.book h b).cues.length < 512) :
    putCue h b i c s =
      if s.slotTest h 1 then
        ⟨.done, .book .draft ((s.book h b).cues.length + 1),
          s.editBook h b ((s.book h b).cues ++ [c]) ((s.host h).slots + 1)⟩
      else s.refuse .noSpace := by
  have append : i = (s.book h b).cues.length ∧ (s.book h b).cues.length < maxBook :=
    ⟨atLength, room⟩
  rw [putCue, State.gated_passed gate]
  simp only [if_neg atLength.not_lt, if_pos append, State.edited, List.length_append,
    List.length_singleton]

end Put

theorem exec_cuePut_misread {h : HostId} {seq x i1 i0 : Byte} {bytes : List Byte} (s : State)
    (misread : bookOfByte x = none ∨ cueOfBytes bytes = none) :
    exec (.cuePut h seq (x :: i1 :: i0 :: bytes)) s =
      .next (s.take h seq 0x10 (x :: i1 :: i0 :: bytes) fun t => t.refuse .badArgument) := by
  change execCuePut h seq _ s = _
  rcases misread with noBook | noCue
  · simp only [execCuePut, noBook]
  · cases book : bookOfByte x <;> simp only [execCuePut, book, noCue]

theorem exec_cuePut_read {h : HostId} {seq x i1 i0 : Byte} {bytes : List Byte} {b : BookId}
    {c : Cue} (s : State) (book : bookOfByte x = some b) (cue : cueOfBytes bytes = some c) :
    exec (.cuePut h seq (x :: i1 :: i0 :: bytes)) s =
      .next (s.take h seq 0x10 (x :: i1 :: i0 :: bytes)
        (putCue h b (i1.toNat * 256 + i0.toNat) c)) := by
  change execCuePut h seq _ s = _
  simp only [execCuePut, book, cue, ofBytes_pair]

/-- Settles O16: the gate, then the row of R48's table for the index, with the slot test of an
append. -/
theorem cuePutRequest : Obligations.CuePutRequest := by
  intro h seq x i1 i0 bytes s next
  refine ⟨fun misread => refuses_of_take (exec_cuePut_misread s misread) next rfl,
    fun b book c cue => ?_⟩
  have run := exec_cuePut_read (h := h) (seq := seq) (i1 := i1) (i0 := i0) s book cue
  refine ⟨fun o gate => refuses_of_take run next (putCue_gated gate), fun gate =>
    ⟨fun outside => refuses_of_take run next (putCue_outOfRange gate outside), fun below => ?_,
      fun atLength room => ⟨fun noSlot => ?_, fun slot => ?_⟩⟩⟩
  · rw [← HostRecord.setBook_setSlots_self]
    exact answers_of_edit run next (putCue_replaced gate below)
  · exact refuses_of_take run next
      ((putCue_atLength (s := s.popRequest h) gate atLength room).trans
        (if_neg (Bool.eq_false_iff.1 noSlot)))
  · exact answers_of_edit run next
      ((putCue_atLength (s := s.popRequest h) gate atLength room).trans (if_pos slot))

end Sys2Proof.Machine
end

section
/-!
PROOFS. CUE DROP and BOOK CLEAR: the index test, the book after, and the settlement of O17 (R49,
R50).
-/

namespace Sys2Proof.Machine

open Sys2Proof.Safety

section DropClear

variable {h : HostId} {b : BookId} {i : Nat} {s : State}

theorem dropCue_gated {o : ReplyCode} (gate : (s.host h).gate b = some o) :
    dropCue h b i s = s.refuse o := State.gated_refused gate

theorem dropCue_outOfRange (gate : (s.host h).gate b = none)
    (outside : (s.book h b).cues.length ≤ i) : dropCue h b i s = s.refuse .badArgument := by
  rw [dropCue, State.gated_passed gate]
  simp only [if_neg outside.not_gt]

/-- The cue at the index goes, the later cues move down one, and its slot is returned (R41, R49). -/
theorem dropCue_dropped (gate : (s.host h).gate b = none)
    (below : i < (s.book h b).cues.length) :
    dropCue h b i s =
      ⟨.done, .book .draft ((s.book h b).cues.length - 1),
        s.editBook h b ((s.book h b).cues.take i ++ (s.book h b).cues.drop (i + 1))
          ((s.host h).slots - 1)⟩ := by
  rw [dropCue, State.gated_passed gate]
  simp only [if_pos below, State.edited, List.length_eraseIdx_of_lt below]
  rw [List.eraseIdx_eq_take_drop_succ]

theorem clearBook_gated {o : ReplyCode} (gate : (s.host h).gate b = some o) :
    clearBook h b s = s.refuse o := State.gated_refused gate

theorem clearBook_cleared (gate : (s.host h).gate b = none) :
    clearBook h b s =
      ⟨.done, .book .draft 0,
        s.editBook h b [] ((s.host h).slots - (s.book h b).cues.length)⟩ :=
  State.gated_passed gate

end DropClear

theorem exec_cueDrop_misread {h : HostId} {seq x i1 i0 : Byte} (s : State)
    (misread : bookOfByte x = none) :
    exec (.cueDrop h seq [x, i1, i0]) s =
      .next (s.take h seq 0x11 [x, i1, i0] fun t => t.refuse .badArgument) := by
  change execCueDrop h seq _ s = _
  simp only [execCueDrop, misread]

theorem exec_cueDrop_read {h : HostId} {seq x i1 i0 : Byte} {b : BookId} (s : State)
    (book : bookOfByte x = some b) :
    exec (.cueDrop h seq [x, i1, i0]) s =
      .next (s.take h seq 0x11 [x, i1, i0] (dropCue h b (i1.toNat * 256 + i0.toNat))) := by
  change execCueDrop h seq _ s = _
  simp only [execCueDrop, book, ofBytes_pair]

theorem exec_bookClear (h : HostId) (seq x : Byte) (s : State) :
    exec (.bookClear h seq [x]) s =
      .next (s.take h seq 0x12 [x] fun t => t.onBook [x] fun b => clearBook h b t) := rfl

/-- Settles O17: CUE DROP's gate, index test and removal, and BOOK CLEAR's gate and empty book. -/
theorem dropAndClear : Obligations.DropAndClear := by
  intro h seq x i1 i0 s
  refine ⟨fun next => ⟨fun misread =>
    refuses_of_take (exec_cueDrop_misread s misread) next rfl, fun b book => ?_⟩, fun next => ?_⟩
  · have run := exec_cueDrop_read (h := h) (seq := seq) (i1 := i1) (i0 := i0) s book
    exact ⟨fun o gate => refuses_of_take run next (dropCue_gated gate), fun gate =>
      ⟨fun outside => refuses_of_take run next (dropCue_outOfRange gate outside),
        fun below => answers_of_edit run next (dropCue_dropped gate below)⟩⟩
  · have run := exec_bookClear h seq x s
    refine ⟨fun misread => refuses_of_take run next (State.onBook_misread _ _ misread),
      fun b book => ⟨fun o gate => ?_, fun gate => ?_⟩⟩
    · exact refuses_of_take run next ((State.onBook_read _ _ book).trans (clearBook_gated gate))
    · exact answers_of_edit run next ((State.onBook_read _ _ book).trans (clearBook_cleared gate))

end Sys2Proof.Machine
end

section
/-!
PROOFS. BOOK COPY: the source longer than the target or not, and the settlement of O18 (R51, R52).
-/

namespace Sys2Proof.Machine

open Sys2Proof.Safety

section Copy

variable {h : HostId} {src dst : BookId} {s : State}

theorem copyBook_gated {o : ReplyCode} (gate : (s.host h).gate dst = some o) :
    copyBook h src dst s = s.refuse o := State.gated_refused gate

/-- A source longer than the target is tested for the slots it is longer by (R51). -/
theorem copyBook_longer (gate : (s.host h).gate dst = none)
    (longer : (s.book h dst).cues.length < (s.book h src).cues.length) :
    copyBook h src dst s =
      if s.slotTest h ((s.book h src).cues.length - (s.book h dst).cues.length) then
        s.edited h dst (s.book h src).cues
          ((s.host h).slots + ((s.book h src).cues.length - (s.book h dst).cues.length))
      else s.refuse .noSpace := by
  rw [copyBook, State.gated_passed gate]
  simp only [if_pos longer]

/-- A source no longer than the target, the target itself included, needs no slot test (R51, R52). -/
theorem copyBook_notLonger (gate : (s.host h).gate dst = none)
    (notLonger : (s.book h src).cues.length ≤ (s.book h dst).cues.length) :
    copyBook h src dst s =
      s.edited h dst (s.book h src).cues
        ((s.host h).slots - ((s.book h dst).cues.length - (s.book h src).cues.length)) := by
  rw [copyBook, State.gated_passed gate]
  simp only [if_neg notLonger.not_gt]

end Copy

theorem exec_bookCopy_misread {h : HostId} {seq x y : Byte} (s : State)
    (misread : bookOfByte x = none ∨ bookOfByte y = none) :
    exec (.bookCopy h seq [x, y]) s =
      .next (s.take h seq 0x13 [x, y] fun t => t.refuse .badArgument) := by
  change execBookCopy h seq _ s = _
  rcases misread with noSource | noTarget
  · simp only [execBookCopy, noSource]
  · cases source : bookOfByte x <;> simp only [execBookCopy, source, noTarget]

theorem exec_bookCopy_read {h : HostId} {seq x y : Byte} {src dst : BookId} (s : State)
    (source : bookOfByte x = some src) (target : bookOfByte y = some dst) :
    exec (.bookCopy h seq [x, y]) s = .next (s.take h seq 0x13 [x, y] (copyBook h src dst)) := by
  change execBookCopy h seq _ s = _
  simp only [execBookCopy, source, target]

/-- Settles O18: the gate on the target, the slot test of a longer source, and the copy in either
direction of the slot count. -/
theorem bookCopyRequest : Obligations.BookCopyRequest := by
  intro h seq x y s next
  refine ⟨fun misread => refuses_of_take (exec_bookCopy_misread s misread) next rfl,
    fun src source dst target => ?_⟩
  have run := exec_bookCopy_read (h := h) (seq := seq) s source target
  refine ⟨fun o gate => refuses_of_take run next (copyBook_gated gate), fun gate =>
    ⟨fun longer noSlots => ?_, fun longer slots => ?_, fun notLonger => ?_⟩⟩
  · exact refuses_of_take run next
      ((copyBook_longer (s := s.popRequest h) gate longer).trans
        (if_neg (Bool.eq_false_iff.1 noSlots)))
  · exact answers_of_edit run next
      ((copyBook_longer (s := s.popRequest h) gate longer).trans (if_pos slots))
  · exact answers_of_edit run next (copyBook_notLonger gate notLonger)

end Sys2Proof.Machine
end

section
/-!
PROOFS. LOAD OPEN: a count in range or not, the tests after the gate in order, and the settlement of
O19 (R64, R65).
-/

namespace Sys2Proof.Machine

open Sys2Proof.Safety

/-! ### An argument with a range -/

theorem inRange_inside {lo hi n : Nat} (atLeast : lo ≤ n) (atMost : n ≤ hi) :
    inRange lo hi n = some n := if_pos ⟨atLeast, atMost⟩

theorem inRange_outside {lo hi n : Nat} (outside : n < lo ∨ hi < n) : inRange lo hi n = none :=
  if_neg (by omega)

/-! ### The rows of R64 after the arguments -/

section Open

variable {h : HostId} {b : BookId} {n : Nat} {s : State}

theorem openLoad_gated {o : ReplyCode} (gate : (s.host h).gate b = some o) :
    openLoad h b n s = s.refuse o := State.gated_refused gate

theorem openLoad_tooLong (gate : (s.host h).gate b = none)
    (long : 512 < (s.book h b).cues.length + n) : openLoad h b n s = s.refuse .badArgument :=
  (State.gated_passed gate).trans (if_pos long)

/-- An open load of the requester refuses before the slot test does (R64). -/
theorem openLoad_busy (gate : (s.host h).gate b = none)
    (fitting : (s.book h b).cues.length + n ≤ 512) (busy : (s.host h).load.isSome = true) :
    openLoad h b n s = s.refuse .busy :=
  (State.gated_passed gate).trans <| (if_neg fitting.not_gt).trans (if_pos busy)

theorem openLoad_noSpace (gate : (s.host h).gate b = none)
    (fitting : (s.book h b).cues.length + n ≤ 512) (noLoad : (s.host h).load = none)
    (noSlots : s.slotTest h n = false) : openLoad h b n s = s.refuse .noSpace :=
  (State.gated_passed gate).trans <| (if_neg fitting.not_gt).trans <|
    (if_neg (by simp [noLoad])).trans (if_pos (by simp [noSlots]))

/-- The load is open: its target is DRAFT, the declared cues are reserved, and none has been received
(R55, R65). -/
theorem openLoad_opened (gate : (s.host h).gate b = none)
    (fitting : (s.book h b).cues.length + n ≤ 512) (noLoad : (s.host h).load = none)
    (slots : s.slotTest h n = true) :
    openLoad h b n s =
      ⟨.done, .loadOpened b (s.book h b).cues.length n,
        s.setHost h
          ((((s.host h).setBook b (s.book h b).edited).setSlots ((s.host h).slots + n)).setLoad
            (some ⟨b, n, 0, (s.book h b).cues.length, 0⟩))⟩ :=
  (State.gated_passed gate).trans <| (if_neg fitting.not_gt).trans <|
    (if_neg (by simp [noLoad])).trans (if_neg (by simp [slots]))

end Open

/-! ### The command -/

theorem exec_loadOpen_misread {h : HostId} {seq x n1 n0 : Byte} (s : State)
    (misread : bookOfByte x = none ∨ inRange 1 512 (n1.toNat * 256 + n0.toNat) = none) :
    exec (.loadOpen h seq [x, n1, n0]) s =
      .next (s.take h seq 0x18 [x, n1, n0] fun t => t.refuse .badArgument) := by
  change execLoadOpen h seq _ s = _
  rcases misread with noBook | noCount
  · simp only [execLoadOpen, noBook]
  · cases book : bookOfByte x <;> simp only [execLoadOpen, book, ofBytes_pair, noCount]

theorem exec_loadOpen_read {h : HostId} {seq x n1 n0 : Byte} {b : BookId} {n : Nat} (s : State)
    (book : bookOfByte x = some b) (count : inRange 1 512 (n1.toNat * 256 + n0.toNat) = some n) :
    exec (.loadOpen h seq [x, n1, n0]) s =
      .next (s.take h seq 0x18 [x, n1, n0] (openLoad h b n)) := by
  change execLoadOpen h seq _ s = _
  simp only [execLoadOpen, book, ofBytes_pair, count]

/-- Settles O19: the arguments, the gate, the length, the open load and the slot test, in R64's
order, and the load opened. -/
theorem loadOpenRequest : Obligations.LoadOpenRequest := by
  intro h seq x n1 n0 s next
  refine ⟨fun misread => ?_, fun b book atLeast atMost => ?_⟩
  · have noArguments := misread.imp_right fun outside =>
      inRange_outside (outside.imp_left Nat.lt_one_iff.2)
    exact refuses_of_take (exec_loadOpen_misread s noArguments) next rfl
  · have run := exec_loadOpen_read (h := h) (seq := seq) s book (inRange_inside atLeast atMost)
    exact ⟨fun o gate => refuses_of_take run next (openLoad_gated gate), fun gate =>
      ⟨fun long => refuses_of_take run next (openLoad_tooLong gate long), fun fitting =>
        ⟨fun busy => refuses_of_take run next (openLoad_busy gate fitting busy),
          fun noLoad noSlots =>
            refuses_of_take run next (openLoad_noSpace gate fitting noLoad noSlots),
          fun noLoad slots =>
            answers_of_take run next (openLoad_opened gate fitting noLoad slots)
              ⟨rfl, rfl, rfl, rfl⟩ ⟨rfl, rfl, rfl, rfl, rfl⟩ rfl⟩⟩⟩

end Sys2Proof.Machine
end

section
/-!
PROOFS. COMPILE: the tests in order, the book that becomes COMPILING and the job at the tail, and the
settlement of O22 (R77, R78).
-/

namespace Sys2Proof.Machine

open Sys2Proof.Safety

section Compile

variable {h : HostId} {b : BookId} {s : State}

theorem startCompile_gated {o : ReplyCode} (gate : (s.host h).gate b = some o) :
    startCompile h b s = s.refuse o := State.gated_refused gate

theorem startCompile_busy (gate : (s.host h).gate b = none) (busy : ∃ j ∈ s.jobs, j.host = h) :
    startCompile h b s = s.refuse .busy :=
  (State.gated_passed gate).trans (if_pos (by simpa using busy))

/-- The job joins behind the jobs ahead of it; its book is COMPILING with its cues as they were, and
has no run list and no report (R43, R78). -/
theorem startCompile_accepted (gate : (s.host h).gate b = none)
    (noJob : ∀ j ∈ s.jobs, j.host ≠ h) :
    startCompile h b s =
      ⟨.accepted, .compiling b (s.book h b).cues.length s.jobs.length,
        (s.setBook h b ⟨(s.book h b).cues, .compiling, none, none⟩).setJobs
          (s.jobs ++ [⟨h, b⟩])⟩ :=
  (State.gated_passed gate).trans (if_neg (by simpa using noJob))

end Compile

theorem exec_compile (h : HostId) (seq x : Byte) (s : State) :
    exec (.compile h seq [x]) s =
      .next (s.take h seq 0x1C [x] fun t => t.onBook [x] fun b => startCompile h b t) := rfl

/-- Settles O22: the book, the gate and the requester's job in R77's order, and the job that joins
the tail of the queue. -/
theorem compileRequest : Obligations.CompileRequest := by
  intro h seq x s next
  have run := exec_compile h seq x s
  refine ⟨fun misread => refuses_of_take run next (State.onBook_misread _ _ misread),
    fun b book => ⟨fun o gate => ?_, fun gate => ⟨fun busy => ?_, fun noJob => ?_⟩⟩⟩
  · exact refuses_of_take run next ((State.onBook_read _ _ book).trans (startCompile_gated gate))
  · exact refuses_of_take run next
      ((State.onBook_read _ _ book).trans (startCompile_busy gate busy))
  · exact answers_of_take run next
      ((State.onBook_read _ _ book).trans (startCompile_accepted gate noJob))
      ⟨rfl, rfl, rfl, rfl⟩ ⟨rfl, rfl, rfl, rfl, rfl⟩ rfl

end Sys2Proof.Machine
end

section
/-!
PROOFS. A request answered with a change of the requester's run record alone, HALT's tests in order,
and the settlement of O27 (R102).
-/

namespace Sys2Proof.Machine

open Sys2Proof.Safety

/-- A taken request whose owner answers with a new run record of the requester leaves that run
record, and every other block as it was. -/
theorem answers_of_setRun {c : Instr} {s : State} {h : HostId} {seq code : Byte}
    {payload : List Byte} {act : State → Answer} {o : ReplyCode} {r : Result} {x : RunRecord}
    (run : exec c s = .next (s.take h seq code payload act))
    (next : s.nextRequest = some (h, ⟨seq, code, payload⟩))
    (answer : act (s.popRequest h) = ⟨o, r, (s.popRequest h).setRun h x⟩) :
    answers c s h ⟨seq, code, payload⟩ o r nobody (s.setHost h { s.host h with run := x }) :=
  answers_of_take run next answer ⟨rfl, rfl, rfl, rfl⟩ ⟨rfl, rfl, rfl, rfl, rfl⟩ rfl

/-! ### The rows of R102 -/

section Halt

variable {h : HostId} {s : State}

theorem haltRun_alternate (alternate : (s.run h).mode = .alternate) :
    haltRun h s = s.refuse .mode := if_pos alternate

theorem haltRun_busy (single : (s.run h).mode = .single) (busy : (s.run h).action ≠ .none) :
    haltRun h s = s.refuse .busy :=
  (if_neg (by simp [single])).trans (if_pos busy)

theorem haltRun_nothingActive (single : (s.run h).mode = .single)
    (idle : (s.run h).action = .none) (noBook : (s.run h).active = none) :
    haltRun h s = s.refuse .nothingPending := by
  simp only [haltRun, single, reduceCtorEq, if_false, if_neg (not_not_intro idle), noBook]

/-- The halt waits for the next boundary, whose frame the reply names (R102). -/
theorem haltRun_accepted {b : BookId} (single : (s.run h).mode = .single)
    (idle : (s.run h).action = .none) (active : (s.run h).active = some b) :
    haltRun h s =
      ⟨.accepted, .halt b (s.timebase.frame + 1),
        s.setRun h { s.run h with action := .halt }⟩ := by
  simp only [haltRun, single, reduceCtorEq, if_false, if_neg (not_not_intro idle), active]

end Halt

theorem exec_halt (h : HostId) (seq : Byte) (s : State) :
    exec (.halt h seq []) s = .next (s.take h seq 0x22 [] (haltRun h)) := rfl

/-- Settles O27: the mode, the pending action and the active book in R102's order, and the halt that
becomes the pending action. -/
theorem haltRequest : Obligations.HaltRequest := by
  intro h seq s next
  have run := exec_halt h seq s
  exact ⟨fun alternate => refuses_of_take run next (haltRun_alternate alternate),
    fun single busy => refuses_of_take run next (haltRun_busy single busy),
    fun single idle noBook => refuses_of_take run next (haltRun_nothingActive single idle noBook),
    fun single idle b active =>
      answers_of_setRun run next (haltRun_accepted single idle active)⟩

end Sys2Proof.Machine
end

section
/-!
PROOFS. MODE SET: the mode a byte names, ALTERNATE's tests in order, and the settlement of O28 (R105,
R106).
-/

namespace Sys2Proof.Machine

open Sys2Proof.Safety

/-! ### The mode byte -/

theorem modeOfByte_zero {m : Byte} (zero : m.toNat = 0) : modeOfByte m = some .single :=
  if_pos (BitVec.eq_of_toNat_eq zero)

theorem modeOfByte_one {m : Byte} (one : m.toNat = 1) : modeOfByte m = some .alternate := by
  obtain rfl : m = 1 := BitVec.eq_of_toNat_eq one
  rfl

theorem modeOfByte_above {m : Byte} (above : 1 < m.toNat) : modeOfByte m = none := by
  have notZero : m ≠ 0 := by rintro rfl; simp at above
  have notOne : m ≠ 1 := by rintro rfl; simp at above
  rw [modeOfByte, if_neg notZero, if_neg notOne]

/-! ### The rows of R105 -/

theorem RunRecord.runOf_eq_ite (r : RunRecord) (b : BookId) :
    r.runOf b = if b = .A then r.runA else r.runB := by cases b <;> rfl

section Alternate

variable {h : HostId} {runA runB : Nat} {s : State}

theorem setAlternate_noRun (noRun : runA = 0 ∨ runB = 0) :
    setAlternate h runA runB s = s.refuse .badArgument := if_pos noRun

theorem setAlternate_busy (runs : ¬ (runA = 0 ∨ runB = 0)) (busy : (s.run h).action ≠ .none) :
    setAlternate h runA runB s = s.refuse .busy :=
  (if_neg runs).trans (if_pos busy)

theorem setAlternate_nothingActive (runs : ¬ (runA = 0 ∨ runB = 0))
    (idle : (s.run h).action = .none) (noBook : (s.run h).active = none) :
    setAlternate h runA runB s = s.refuse .nothingPending := by
  simp only [setAlternate, if_neg runs, if_neg (not_not_intro idle), noBook]

/-- The turn counter is loaded with the run length of the active book (R105). -/
theorem setAlternate_done {b : BookId} (runs : ¬ (runA = 0 ∨ runB = 0))
    (idle : (s.run h).action = .none) (active : (s.run h).active = some b) :
    setAlternate h runA runB s =
      ⟨.done, .mode .alternate (some b) (if b = .A then runA else runB),
        s.setRun h
          { s.run h with
            mode := .alternate, runA := runA, runB := runB
            turn := if b = .A then runA else runB }⟩ := by
  simp only [setAlternate, if_neg runs, if_neg (not_not_intro idle), active,
    RunRecord.runOf_eq_ite]

end Alternate

/-! ### The command -/

theorem exec_modeSet_misread {h : HostId} {seq m a b : Byte} (s : State)
    (misread : modeOfByte m = none) :
    exec (.modeSet h seq [m, a, b]) s =
      .next (s.take h seq 0x23 [m, a, b] fun t => t.refuse .badArgument) := by
  change execModeSet h seq _ s = _
  simp only [execModeSet, misread]

theorem exec_modeSet_single {h : HostId} {seq m a b : Byte} (s : State)
    (single : modeOfByte m = some .single) :
    exec (.modeSet h seq [m, a, b]) s = .next (s.take h seq 0x23 [m, a, b] (setSingle h)) := by
  change execModeSet h seq _ s = _
  simp only [execModeSet, single]

theorem exec_modeSet_alternate {h : HostId} {seq m a b : Byte} (s : State)
    (alternate : modeOfByte m = some .alternate) :
    exec (.modeSet h seq [m, a, b]) s =
      .next (s.take h seq 0x23 [m, a, b] (setAlternate h a.toNat b.toNat)) := by
  change execModeSet h seq _ s = _
  simp only [execModeSet, alternate]

/-- Settles O28: the mode byte, SINGLE without a test, and ALTERNATE's run lengths, pending action and
active book in R105's order, with the turn counter it loads. -/
theorem modeSetRequest : Obligations.ModeSetRequest := by
  intro h seq m a b s next
  refine ⟨fun above => ?_, fun zero => ?_, fun one => ?_⟩
  · exact refuses_of_take (exec_modeSet_misread s (modeOfByte_above above)) next rfl
  · exact answers_of_setRun (exec_modeSet_single s (modeOfByte_zero zero)) next rfl
  · have run := exec_modeSet_alternate (h := h) (seq := seq) (a := a) (b := b) s
      (modeOfByte_one one)
    refine ⟨fun noRun => refuses_of_take run next (setAlternate_noRun noRun),
      fun runsA runsB => ?_⟩
    have runs : ¬ (a.toNat = 0 ∨ b.toNat = 0) := not_or.2 ⟨runsA, runsB⟩
    exact ⟨fun busy => refuses_of_take run next (setAlternate_busy runs busy),
      fun idle noBook => refuses_of_take run next (setAlternate_nothingActive runs idle noBook),
      fun idle x active => answers_of_setRun run next (setAlternate_done runs idle active)⟩

end Sys2Proof.Machine
end

section
/-!
PROOFS. What the offer requests share: a host named by a byte, an answer that writes one lane and
posts one notice, the tests of a payload of one lane, and the common tests of DECLINE and ACCEPT
(R124, R125, R169, R175).
-/

namespace Sys2Proof.Machine

open Sys2Proof.Safety

/-! ### A host named by a byte -/

theorem hostOfByte_eq_none {y : Byte} (above : 3 < y.toNat) : hostOfByte y = none :=
  dif_neg (by omega)

theorem hostOfByte_eq_some {y : Byte} {g : HostId} (names : y.toNat = g.val) :
    hostOfByte y = some g := by
  unfold hostOfByte
  rw [dif_pos (by omega)]
  exact congrArg some (Fin.ext names)

/-! ### An answer that writes one lane and posts one notice -/

/-- A port after one post, without the numbers: its own notices in the form of a statement. -/
theorem plainPort_post_only (s : State) (g : HostId) (b : NoticeBody) (k : HostId) :
    plainPort ((s.post g b).port k) =
      plainPort (tellAll s.timebase.frame (s.port k) (only g [b] k)) := by
  rw [plainPort_post, only]
  split <;> rfl

/-- A taken request whose owner answers with a write of one lane and a notice to one host leaves
that lane, tells that host, and keeps everything else as it was. -/
theorem answers_of_setLane_post {c : Instr} {s : State} {h g : HostId} {seq code : Byte}
    {payload : List Byte} {act : State → Answer} {o : ReplyCode} {r : Result} {l : LaneId}
    {x : Lane} {b : NoticeBody}
    (run : exec c s = .next (s.take h seq code payload act))
    (next : s.nextRequest = some (h, ⟨seq, code, payload⟩))
    (answer : act (s.popRequest h) = ⟨o, r, ((s.popRequest h).setLane l x).post g b⟩) :
    answers c s h ⟨seq, code, payload⟩ o r (only g [b]) (s.setLane l x) := by
  refine ⟨_, run, State.take_requestDone next ?_ ?_ ?_ ?_ fun k => ?_⟩ <;> rw [answer]
  · simp [samePins]
  · simp [sameBlocks]
  · exact plainPort_post_only _ g b k

/-! ### The refusals of a request for one lane -/

section OneLane

variable {c : Instr} {s : State} {h : HostId} {seq code x : Byte} {f : LaneId → State → Answer}

theorem refuses_of_onLane_above
    (run : exec c s = .next (s.take h seq code [x] fun t => t.onLane [x] fun l => f l t))
    (next : s.nextRequest = some (h, ⟨seq, code, [x]⟩)) (above : 15 < x.toNat) :
    refuses c s h ⟨seq, code, [x]⟩ .badArgument .none :=
  refuses_of_take run next (State.onLane_above _ _ above)

theorem refuses_of_onLane {l : LaneId} {o : ReplyCode}
    (run : exec c s = .next (s.take h seq code [x] fun t => t.onLane [x] fun l => f l t))
    (next : s.nextRequest = some (h, ⟨seq, code, [x]⟩)) (names : x.toNat = l.val)
    (answer : f l (s.popRequest h) = (s.popRequest h).refuse o) :
    refuses c s h ⟨seq, code, [x]⟩ o .none :=
  refuses_of_take run next ((State.onLane_named _ _ names).trans answer)

end OneLane

/-! ### The common tests of DECLINE and ACCEPT -/

/-- The tests of R124 on a lane that exists, and then the answer for the giver. -/
def State.onOffer (s : State) (h : HostId) (l : LaneId) (f : HostId → Answer) : Answer :=
  if !(s.lane l).offeredTo h then s.refuse .noOffer
  else
    match (s.lane l).state, (s.lane l).holder with
    | .offered, some g => f g
    | _, _ => s.refuse .handover

theorem declineOffer_eq_onOffer (h : HostId) (l : LaneId) (s : State) :
    declineOffer h l s =
      s.onOffer h l fun g =>
        ⟨.done, .laneHost l g,
          (s.setLane l (s.lane l).offerEnded).post g (.offerEnded l .declined)⟩ := rfl

theorem acceptOffer_eq_onOffer (h : HostId) (l : LaneId) (s : State) :
    acceptOffer h l s =
      s.onOffer h l fun g =>
        ⟨.done, .accepted l g (s.timebase.frame + 1),
          s.setLane l { s.lane l with state := .handover, offer := some ⟨h, none⟩ }⟩ := rfl

theorem LaneRecord.offeredTo_iff (x : LaneRecord) (h : HostId) :
    x.offeredTo h = true ↔
      x.state ∈ [LaneState.offered, .handover] ∧ x.offer.map (·.target) = some h := by
  simp [LaneRecord.offeredTo]

section OnOffer

variable {s : State} {h : HostId} {l : LaneId} {f : HostId → Answer}

theorem State.onOffer_notOffered
    (foreign : ¬ ((s.lane l).state ∈ [LaneState.offered, .handover] ∧
      (s.lane l).offer.map (·.target) = some h)) :
    s.onOffer h l f = s.refuse .noOffer :=
  if_pos (by simpa using mt (LaneRecord.offeredTo_iff _ h).1 foreign)

theorem State.onOffer_handover (target : (s.lane l).offer.map (·.target) = some h)
    (handover : (s.lane l).state = .handover) : s.onOffer h l f = s.refuse .handover := by
  have mine := (LaneRecord.offeredTo_iff (s.lane l).toLaneRecord h).2 ⟨by simp [handover], target⟩
  simp [State.onOffer, mine, handover]

theorem State.onOffer_offered {g : HostId} (target : (s.lane l).offer.map (·.target) = some h)
    (offered : (s.lane l).state = .offered) (giver : (s.lane l).holder = some g) :
    s.onOffer h l f = f g := by
  have mine := (LaneRecord.offeredTo_iff (s.lane l).toLaneRecord h).2 ⟨by simp [offered], target⟩
  simp [State.onOffer, mine, offered, giver]

end OnOffer

end Sys2Proof.Machine
end

section
/-!
PROOFS. OFFER: its arguments in range or not, the tests in order, the offer made, and the settlement
of O10 (R121, R122).
-/

namespace Sys2Proof.Machine

open Sys2Proof.Safety

/-! ### The rows of R121 after the ranges -/

section Offer

variable {h g : HostId} {l : LaneId} {e : Nat} {s : State}

theorem offerLane_self : offerLane h l h e s = s.refuse .badArgument := if_pos rfl

theorem offerLane_notHolder (other : g ≠ h) (foreign : (s.lane l).holder ≠ some h) :
    offerLane h l g e s = s.refuse .notHolder :=
  (if_neg other).trans (if_pos foreign)

/-- OFFER refuses the holder of a lane that is not HELD by the same rows as RELEASE (R24, R121). -/
theorem offerLane_refused {o : ReplyCode} (other : g ≠ h) (holds : (s.lane l).holder = some h)
    (row : releaseRefusal (s.lane l).state = some o) : offerLane h l g e s = s.refuse o := by
  cases state : (s.lane l).state with
  | held => simp [releaseRefusal, state] at row
  | free | retiring | offered | handover =>
    obtain rfl : _ = o := by simpa [releaseRefusal, state] using row
    simp [offerLane, other, holds, state]

/-- On a lane HELD by the requester the fault is tested first and the target's reset after it. -/
theorem offerLane_held (other : g ≠ h) (holds : (s.lane l).holder = some h)
    (held : (s.lane l).state = .held) :
    offerLane h l g e s =
      if (s.lane l).faultFlag then s.refuse .faulted
      else if (s.port g).held then s.refuse .badArgument
      else
        ⟨.done, .offer l g e,
          (s.setLane l { s.lane l with state := .offered, offer := some ⟨g, some e⟩ }).post g
            (.offerMade l h e)⟩ := by
  simp [offerLane, other, holds, held]

end Offer

/-! ### The command -/

theorem exec_offer_misread {h : HostId} {seq x y e : Byte} (s : State)
    (misread : laneOfByte x = none ∨ hostOfByte y = none ∨ inRange 1 64 e.toNat = none) :
    exec (.offer h seq [x, y, e]) s =
      .next (s.take h seq 0x06 [x, y, e] fun t => t.refuse .badArgument) := by
  change execOffer h seq _ s = _
  rcases misread with noLane | noHost | noExpiry
  · simp only [execOffer, noLane]
  · cases lane : laneOfByte x <;> simp only [execOffer, lane, noHost]
  · cases lane : laneOfByte x <;> cases host : hostOfByte y <;>
      simp only [execOffer, lane, host, noExpiry]

theorem exec_offer_read {h g : HostId} {seq x y e : Byte} {l : LaneId} {n : Nat} (s : State)
    (lane : laneOfByte x = some l) (target : hostOfByte y = some g)
    (expiry : inRange 1 64 e.toNat = some n) :
    exec (.offer h seq [x, y, e]) s =
      .next (s.take h seq 0x06 [x, y, e] (offerLane h l g n)) := by
  change execOffer h seq _ s = _
  simp only [execOffer, lane, target, expiry]

/-- Settles O10: the ranges, the requester as target, the rows of the lane state, the fault and the
held target in R121's order, and the offer told to its target. -/
theorem offerRequest : Obligations.OfferRequest := by
  intro h seq x y e s next
  refine ⟨fun outside => ?_, fun l g lane target atLeast atMost => ?_⟩
  · have misread := outside.imp laneOfByte_eq_none
      (Or.imp hostOfByte_eq_none fun range => inRange_outside (range.imp_left Nat.lt_one_iff.2))
    exact refuses_of_take (exec_offer_misread s misread) next rfl
  · have run := exec_offer_read (h := h) (seq := seq) s (laneOfByte_eq_some lane)
      (hostOfByte_eq_some target) (inRange_inside atLeast atMost)
    refine ⟨?_, fun other => ⟨fun foreign => ?_, fun holds => ?_⟩⟩
    · rintro rfl
      exact refuses_of_take run next offerLane_self
    · exact refuses_of_take run next (offerLane_notHolder other foreign)
    have refused {o : ReplyCode} (row : releaseRefusal (s.lane l).state = some o) :
        refuses (.offer h seq [x, y, e]) s h ⟨seq, 0x06, [x, y, e]⟩ o .none :=
      refuses_of_take run next (offerLane_refused other holds row)
    refine ⟨fun state => ?_, fun state => ?_, fun state => ?_, fun held => ?_⟩
    · exact refused (congrArg releaseRefusal state)
    · exact refused (congrArg releaseRefusal state)
    · exact refused (congrArg releaseRefusal state)
    · have answer := offerLane_held (s := s.popRequest h) (e := e.toNat) other holds held
      rw [State.port_popRequest, if_neg other] at answer
      refine ⟨fun faulted => ?_, fun sound inReset => ?_, fun sound running => ?_⟩
      · exact refuses_of_take run next (answer.trans (if_pos faulted))
      · exact refuses_of_take run next
          (answer.trans ((if_neg (Bool.eq_false_iff.1 sound)).trans (if_pos inReset)))
      · exact answers_of_setLane_post run next
          (answer.trans ((if_neg (Bool.eq_false_iff.1 sound)).trans
            (if_neg (Bool.eq_false_iff.1 running))))

end Sys2Proof.Machine
end

section
/-!
PROOFS. WITHDRAW: its tests in order, the offer ended, and the settlement of O11 (R123).
-/

namespace Sys2Proof.Machine

open Sys2Proof.Safety

section Withdraw

variable {h : HostId} {l : LaneId} {s : State}

theorem withdrawOffer_notHolder (foreign : (s.lane l).holder ≠ some h) :
    withdrawOffer h l s = s.refuse .notHolder := if_pos foreign

theorem withdrawOffer_handover (holds : (s.lane l).holder = some h)
    (handover : (s.lane l).state = .handover) : withdrawOffer h l s = s.refuse .handover :=
  (if_neg (not_not_intro holds)).trans (if_pos handover)

theorem withdrawOffer_noOffer (holds : (s.lane l).holder = some h)
    (state : (s.lane l).state = .held ∨ (s.lane l).state = .retiring) :
    withdrawOffer h l s = s.refuse .noOffer := by
  rcases state with held | retiring
  · simp [withdrawOffer, holds, held]
  · simp [withdrawOffer, holds, retiring]

theorem withdrawOffer_offered {o : Offer} (holds : (s.lane l).holder = some h)
    (offered : (s.lane l).state = .offered) (offer : (s.lane l).offer = some o) :
    withdrawOffer h l s =
      ⟨.done, .laneHost l o.target,
        (s.setLane l (s.lane l).offerEnded).post o.target (.offerEnded l .withdrawn)⟩ := by
  simp [withdrawOffer, holds, offered, offer]

end Withdraw

theorem exec_withdraw (h : HostId) (seq x : Byte) (s : State) :
    exec (.withdraw h seq [x]) s =
      .next (s.take h seq 0x07 [x] fun t => t.onLane [x] fun l => withdrawOffer h l t) := rfl

/-- Settles O11: the lane, its holder and its state in R123's order, and the ended offer told to its
target. -/
theorem withdrawRequest : Obligations.WithdrawRequest := by
  intro h seq x s next
  have run := exec_withdraw h seq x s
  refine ⟨refuses_of_onLane_above run next, fun l names => ⟨fun foreign => ?_, fun holds =>
    ⟨fun handover => ?_, fun state => ?_, fun offered o offer => ?_⟩⟩⟩
  · exact refuses_of_onLane run next names (withdrawOffer_notHolder foreign)
  · exact refuses_of_onLane run next names (withdrawOffer_handover holds handover)
  · exact refuses_of_onLane run next names (withdrawOffer_noOffer holds state)
  · exact answers_of_setLane_post run next
      ((State.onLane_named _ _ names).trans (withdrawOffer_offered holds offered offer))

end Sys2Proof.Machine
end

section
/-!
PROOFS. DECLINE and ACCEPT: the two commands by their common tests, and the settlement of O12 (R124,
R125).
-/

namespace Sys2Proof.Machine

open Sys2Proof.Safety

theorem exec_decline (h : HostId) (seq x : Byte) (s : State) :
    exec (.decline h seq [x]) s =
      .next (s.take h seq 0x08 [x] fun t => t.onLane [x] fun l => declineOffer h l t) := rfl

theorem exec_accept (h : HostId) (seq x : Byte) (s : State) :
    exec (.accept h seq [x]) s =
      .next (s.take h seq 0x09 [x] fun t => t.onLane [x] fun l => acceptOffer h l t) := rfl

/-- Settles O12: R124's tests on either request, the declined offer told to the giver, and the
accepted lane in HANDOVER with the first frame of its new holder. -/
theorem declineAndAccept : Obligations.DeclineAndAccept := by
  intro h seq x s
  refine ⟨fun next => ?_, fun next => ?_⟩
  · have run := exec_decline h seq x s
    simp only [declineOffer_eq_onOffer] at run
    refine ⟨refuses_of_onLane_above run next, fun l names => ⟨fun foreign => ?_, fun target =>
      ⟨fun handover => ?_, fun offered g giver => ?_⟩⟩⟩
    · exact refuses_of_onLane run next names (State.onOffer_notOffered foreign)
    · exact refuses_of_onLane run next names (State.onOffer_handover target handover)
    · exact answers_of_setLane_post run next
        ((State.onLane_named _ _ names).trans (State.onOffer_offered target offered giver))
  · have run := exec_accept h seq x s
    simp only [acceptOffer_eq_onOffer] at run
    refine ⟨refuses_of_onLane_above run next, fun l names => ⟨fun foreign => ?_, fun target =>
      ⟨fun handover => ?_, fun offered g giver => ?_⟩⟩⟩
    · exact refuses_of_onLane run next names (State.onOffer_notOffered foreign)
    · exact refuses_of_onLane run next names (State.onOffer_handover target handover)
    · exact answers_of_take run next
        ((State.onLane_named _ _ names).trans (State.onOffer_offered target offered giver))
        ⟨rfl, rfl, rfl, rfl⟩ ⟨rfl, rfl, rfl, rfl, rfl⟩ rfl

end Sys2Proof.Machine
end

section
/-!
PROOFS. FAULT CLEAR: its tests in order, the lane watched again with the check it asks for, and the
settlement of O13 (R137, R142).
-/

namespace Sys2Proof.Machine

open Sys2Proof.Safety

/-! ### The cleared lane -/

/-- A lane with a holder, its flag cleared and driven inactive, has the check asked for by the
request wherever readback is on: a check that the drive itself may have set is the same one. -/
theorem Lane.clearFlag_eq {x : Lane} {h : HostId} (holds : x.holder = some h) :
    (Lane.drive { x with faultFlag := false } false none).schedule =
      { x with
        faultFlag := false, level := false, pulseEnd := none
        check := if x.settings.readback then some x.settings.settle else x.check } := by
  rw [Lane.schedule_eq, Lane.drive_eq]
  cases readback : x.settings.readback <;> simp [Lane.watched, holds, readback]

/-! ### The rows of R142 -/

section FaultClear

variable {h : HostId} {l : LaneId} {s : State}

theorem clearFault_notHolder (foreign : (s.lane l).holder ≠ some h) :
    clearFault h l s = s.refuse .notHolder := if_pos foreign

theorem clearFault_retiring (holds : (s.lane l).holder = some h)
    (retiring : (s.lane l).state = .retiring) : clearFault h l s = s.refuse .retiring := by
  simp [clearFault, holds, retiring]

theorem clearFault_handover (holds : (s.lane l).holder = some h)
    (handover : (s.lane l).state = .handover) : clearFault h l s = s.refuse .handover := by
  simp [clearFault, holds, handover]

/-- On a lane the requester keeps, the flag is tested first and the count after it. -/
theorem clearFault_kept (holds : (s.lane l).holder = some h)
    (state : (s.lane l).state = .held ∨ (s.lane l).state = .offered) :
    clearFault h l s =
      if (s.lane l).faultFlag = false then s.refuse .notFaulted
      else if 3 ≤ (s.lane l).faultCount then s.refuse .faultLimit
      else
        ⟨.done, .faultCount l (s.lane l).faultCount,
          s.setLane l
            { s.lane l with
              faultFlag := false, level := false, pulseEnd := none
              check :=
                if (s.lane l).settings.readback then some (s.lane l).settings.settle
                else (s.lane l).check }⟩ := by
  rw [← Lane.clearFlag_eq holds]
  rcases state with held | offered
  · simp [clearFault, faultLimit, holds, held]
  · simp [clearFault, faultLimit, holds, offered]

end FaultClear

theorem exec_faultClear (h : HostId) (seq x : Byte) (s : State) :
    exec (.faultClear h seq [x]) s =
      .next (s.take h seq 0x0A [x] fun t => t.onLane [x] fun l => clearFault h l t) := rfl

/-- Settles O13: the lane, its holder, its state, the flag and the count in R142's order, and the flag
cleared on a lane that keeps its count and record. -/
theorem faultClearRequest : Obligations.FaultClearRequest := by
  intro h seq x s next
  have run := exec_faultClear h seq x s
  refine ⟨refuses_of_onLane_above run next, fun l names => ⟨fun foreign => ?_, fun holds =>
    ⟨fun retiring => ?_, fun handover => ?_, fun state => ?_⟩⟩⟩
  · exact refuses_of_onLane run next names (clearFault_notHolder foreign)
  · exact refuses_of_onLane run next names (clearFault_retiring holds retiring)
  · exact refuses_of_onLane run next names (clearFault_handover holds handover)
  · have answer := clearFault_kept (s := s.popRequest h) holds state
    refine ⟨fun sound => ?_, fun faulted limit => ?_, fun faulted below => ?_⟩
    · exact refuses_of_onLane run next names (answer.trans (if_pos sound))
    · exact refuses_of_onLane run next names
        (answer.trans ((if_neg (ne_false_of_eq_true faulted)).trans (if_pos limit)))
    · exact answers_of_take run next
        ((State.onLane_named _ _ names).trans
          (answer.trans ((if_neg (ne_false_of_eq_true faulted)).trans
            (if_neg (Nat.not_le.2 below)))))
        ⟨rfl, rfl, rfl, rfl⟩ ⟨rfl, rfl, rfl, rfl, rfl⟩ rfl

end Sys2Proof.Machine
end

section
/-!
PROOFS. Notices of one request to several hosts: what each host is told, and the form in which such
a request's statement is proved (R169, R175).
-/

namespace Sys2Proof.Machine

open Sys2Proof.Safety

/-! ### Notices of several hosts at once -/

/-- The notices `told`, host by host, as they are posted. -/
def postsOf (told : Told) : Posts := allHosts.flatMap fun g => (told g).map fun b => (g, b)

theorem nodup_allHosts : allHosts.Nodup := List.nodup_finRange 4

/-- Of the notices of a duplicate-free list of hosts, those for one host. -/
theorem postsOf_hosts_for (told : Told) {hs : List HostId} (nodup : hs.Nodup) (g : HostId) :
    ((hs.flatMap fun k => (told k).map fun b => (k, b)).filter fun p => p.1 == g).map (·.2) =
      if g ∈ hs then told g else [] := by
  induction hs with
  | nil => rfl
  | cons k hs ih =>
    obtain ⟨new, nodup⟩ := List.nodup_cons.1 nodup
    rw [List.flatMap_cons, List.filter_append, List.map_append, ih nodup]
    by_cases e : g = k
    · subst e
      simp [new, List.filter_map, Function.comp_def]
    · simp [e, Ne.symm e, List.filter_map, Function.comp_def]

theorem postsOf_for (told : Told) (g : HostId) :
    ((postsOf told).filter fun p => p.1 == g).map (·.2) = told g :=
  (postsOf_hosts_for told nodup_allHosts g).trans (if_pos (mem_allHosts g))

/-- One notice to each host that passes a test, as the model lists them. -/
theorem postsOf_filter {P : HostId → Prop} [DecidablePred P] {p : HostId → Bool}
    (tests : ∀ g, p g = true ↔ P g) (b : NoticeBody) :
    postsOf (fun g => if P g then [b] else []) = (allHosts.filter p).map fun g => (g, b) := by
  unfold postsOf
  induction allHosts with
  | nil => rfl
  | cons k hs ih =>
    by_cases e : P k
    · simp [ih, e, (tests k).2 e]
    · simp [ih, e, mt (tests k).1 e]

/-- A taken request whose owner answers with a change of the blocks and with notices leaves those
blocks and tells each host its own notices, in the frame now running (R169, R175). -/
theorem answers_of_postsOf {c : Instr} {s u v : State} {h : HostId} {seq code : Byte}
    {payload : List Byte} {act : State → Answer} {o : ReplyCode} {r : Result} {told : Told}
    (run : exec c s = .next (s.take h seq code payload act))
    (next : s.nextRequest = some (h, ⟨seq, code, payload⟩))
    (answer : act (s.popRequest h) = ⟨o, r, v.postAll (postsOf told)⟩)
    (pins : samePins (s.popRequest h) v) (blocks : sameBlocks v u)
    (ports : v.ports = (s.popRequest h).ports)
    (frame : v.timebase.frame = s.timebase.frame) :
    answers c s h ⟨seq, code, payload⟩ o r told u := by
  refine ⟨_, run, State.take_requestDone next ?_ ?_ ?_ ?_ fun g => ?_⟩ <;> rw [answer]
  · simpa [samePins] using pins
  · simpa [sameBlocks] using blocks
  · rw [plainPort_postAll, postsOf_for, frame, (State.ports_eq_iff _ _).1 ports g]

end Sys2Proof.Machine
end

section
/-!
PROOFS. The change to AGREED: the demotions of every host's misfitting books as one write of the
host records and one list of notices (R8, R104, R154).
-/

namespace Sys2Proof.Machine

open Sys2Proof.Safety

/-! ### Demotion of one host's misfitting books (R104, R154) -/

/-- Host record `r` with a READY or PENDING book `b` that does not fit `f` demoted, and a swap to it
cancelled. -/
def HostRecord.demoteMisfit (f : Nat) (b : BookId) (r : HostRecord) : HostRecord :=
  if (r.book b).idleMisfit f then
    (r.setBook b (r.book b).demoted).setRun
      (if (r.book b).state = .pending then { r.run with action := .none } else r.run)
  else r

/-- The notice of that demotion. -/
def misfitTold (f : Nat) (r : HostRecord) (b : BookId) : List NoticeBody :=
  if (r.book b).idleMisfit f then [.bookDemoted b] else []

theorem HostRecord.demoteMisfit_book_ne (f : Nat) (r : HostRecord) {b c : BookId} (other : c ≠ b) :
    (r.demoteMisfit f b).book c = r.book c := by
  unfold HostRecord.demoteMisfit
  split <;> simp [other]

/-- Book A first and then book B: the record that `demotedBy` describes. -/
theorem demotedBy_eq (f : Nat) (r : HostRecord) :
    demotedBy f r = (r.demoteMisfit f .A).demoteMisfit f .B := by
  have bookB := HostRecord.demoteMisfit_book_ne f r (b := .A) (c := .B) (by decide)
  rw [HostRecord.demoteMisfit, bookB]
  unfold demotedBy HostRecord.demoteMisfit HostRecord.setBook HostRecord.setRun
  by_cases a : r.bookA.idleMisfit f = true
  · by_cases swap : r.bookA.state = .pending
    · by_cases b : r.bookB.idleMisfit f = true <;> simp [HostRecord.book, a, b, swap]
    · by_cases b : r.bookB.idleMisfit f = true <;> simp [HostRecord.book, a, b, swap]
  · by_cases b : r.bookB.idleMisfit f = true <;> simp [HostRecord.book, a, b]

theorem demotionsTold_eq (f : Nat) (r : HostRecord) :
    demotionsTold f r = misfitTold f r .A ++ misfitTold f (r.demoteMisfit f .A) .B := by
  have bookB : (r.demoteMisfit f .A).book .B = r.bookB :=
    HostRecord.demoteMisfit_book_ne f r (by decide)
  simp only [misfitTold, bookB]
  rfl

/-! ### Host records and notices are written apart -/

theorem State.setHost_self (s : State) (h : HostId) : s.setHost h (s.host h) = s := by
  simp [State.setHost, State.host]

theorem State.post_withHosts (s : State) (hosts : Vector HostRecord 4) (g : HostId)
    (b : NoticeBody) : { s.post g b with hosts } = ({ s with hosts } : State).post g b :=
  apply_ite (fun t : State => { t with hosts }) ((s.port g).held = true) _ _

theorem State.postAll_withHosts (s : State) (hosts : Vector HostRecord 4) (ps : Posts) :
    { s.postAll ps with hosts } = ({ s with hosts } : State).postAll ps := by
  induction ps generalizing s with
  | nil => rfl
  | cons p ps ih => rw [State.postAll_cons, ih, State.post_withHosts, State.postAll_cons]

theorem State.setHost_postAll (s : State) (h : HostId) (x : HostRecord) (ps : Posts) :
    (s.postAll ps).setHost h x = (s.setHost h x).postAll ps := by
  rw [State.setHost, State.postAll_withHosts, State.postAll_hosts]
  rfl

/-! ### The change to AGREED (R154) -/

/-- One book of one host is tested, and demoted where it does not fit. -/
theorem State.demote_misfit_eq (s : State) (f : Nat) (h : HostId) (b : BookId) :
    (if (s.book h b).idleMisfit f then s.demote h b else s) =
      (s.setHost h ((s.host h).demoteMisfit f b)).postAll
        ((misfitTold f (s.host h) b).map fun n => (h, n)) := by
  unfold HostRecord.demoteMisfit misfitTold State.book
  split
  · rfl
  · exact (s.setHost_self h).symm

/-- The test and demotion of both books of one host, book A first. -/
def State.demoteHost (f : Nat) (s : State) (h : HostId) : State :=
  allBooks.foldl (fun t b => if (t.book h b).idleMisfit f then t.demote h b else t) s

theorem State.demoteHost_eq (f : Nat) (s : State) (h : HostId) :
    s.demoteHost f h =
      (s.setHost h (demotedBy f (s.host h))).postAll
        ((demotionsTold f (s.host h)).map fun n => (h, n)) := by
  simp only [State.demoteHost, allBooks, List.foldl_cons, List.foldl_nil]
  rw [State.demote_misfit_eq, State.demote_misfit_eq, State.setHost_postAll]
  simp [demotedBy_eq, demotionsTold_eq, State.postAll_append]

/-- Each host of a duplicate-free list has its own books demoted and its own notices. -/
theorem State.foldl_demoteHost (f : Nat) (s : State) {hs : List HostId} (nodup : hs.Nodup) :
    hs.foldl (State.demoteHost f) s =
      ({ s with
          hosts := Vector.ofFn fun g =>
            if g ∈ hs then demotedBy f (s.host g) else s.host g } : State).postAll
        (hs.flatMap fun g => (demotionsTold f (s.host g)).map fun n => (g, n)) := by
  induction hs generalizing s with
  | nil =>
    have unchanged : s.hosts = Vector.ofFn fun g : HostId => s.host g := by
      ext1 i hi
      simp [State.host]
    simp [← unchanged]
  | cons h hs ih =>
    obtain ⟨new, nodup⟩ := List.nodup_cons.1 nodup
    have later : ∀ g ∈ hs, (s.demoteHost f h).host g = s.host g := fun g mem => by
      have other : g ≠ h := fun e => new (e ▸ mem)
      simp [State.demoteHost_eq, other]
    have records : ∀ g : HostId,
        (if g ∈ hs then demotedBy f ((s.demoteHost f h).host g) else (s.demoteHost f h).host g) =
          if g ∈ h :: hs then demotedBy f (s.host g) else s.host g := fun g => by
      by_cases e : g = h
      · subst e
        simp [State.demoteHost_eq, new]
      · simp [State.demoteHost_eq, e]
    have notices : (hs.flatMap fun g =>
          (demotionsTold f ((s.demoteHost f h).host g)).map fun n => (g, n)) =
        hs.flatMap fun g => (demotionsTold f (s.host g)).map fun n => (g, n) :=
      List.flatMap_congr fun g mem => by rw [later g mem]
    rw [List.foldl_cons, ih _ nodup, notices, List.flatMap_cons, State.postAll_append]
    simp only [records]
    rw [State.demoteHost_eq, State.postAll_withHosts]
    rfl

/-- The demotions of every host at once. -/
theorem State.demoteWhere_idleMisfit (s : State) (f : Nat) :
    (s.demoteWhere fun _ _ b => b.idleMisfit f) =
      ({ s with hosts := Vector.ofFn fun g => demotedBy f (s.host g) } : State).postAll
        (postsOf fun g => demotionsTold f (s.host g)) := by
  have hostByHost :
      (s.demoteWhere fun _ _ b => b.idleMisfit f) = allHosts.foldl (State.demoteHost f) s := by
    simp only [State.demoteWhere, everyBook, List.foldl_flatMap, List.foldl_map]
    rfl
  rw [hostByHost, State.foldl_demoteHost f s nodup_allHosts]
  simp [postsOf]

/-- The change to AGREED as the statements write it: the blocks, and then the notices. -/
theorem State.agree_eq (s : State) (p : Proposal) :
    s.agree p =
      (afterAgreement s p).postAll (postsOf fun g => demotionsTold p.newF (s.host g)) :=
  (s.recordAgreed p).demoteWhere_idleMisfit p.newF

end Sys2Proof.Machine
end

section
/-!
PROOFS. What PROPOSE and VOTE share: the fit of the requester's compiled books (R148, R150), and the
form in which an answer that agrees is proved (R154).
-/

namespace Sys2Proof.Machine

open Sys2Proof.Safety

/-! ### Fit of the requester's compiled books -/

theorem BookState.compiled_iff (x : BookState) :
    x.compiled = true ↔ x ∈ [BookState.ready, .pending, .active] := by
  cases x <;> decide

theorem State.compiledBooksFit_iff (s : State) (h : HostId) (f : Nat) :
    s.compiledBooksFit h f = true ↔
      ∀ b ∈ allBooks, (s.book h b).state ∈ [BookState.ready, .pending, .active] →
        ∀ x ∈ (s.book h b).cues, x.fits f = true := by
  simp only [State.compiledBooksFit, Book.fits, List.all_eq_true, Bool.or_eq_true,
    Bool.not_eq_true', ← BookState.compiled_iff, Bool.eq_false_iff, ← imp_iff_not_or, ne_eq]

theorem State.compiledBooksFit_eq_false_iff (s : State) (h : HostId) (f : Nat) :
    s.compiledBooksFit h f = false ↔
      ∃ b ∈ allBooks, (s.book h b).state ∈ [BookState.ready, .pending, .active] ∧
        ∃ x ∈ (s.book h b).cues, x.fits f = false := by
  rw [Bool.eq_false_iff, ne_eq, State.compiledBooksFit_iff]
  push Not
  simp only [ne_eq, Bool.not_eq_true]

/-! ### A request whose answer is the change to AGREED -/

theorem answers_of_agree {c : Instr} {s : State} {h : HostId} {seq code : Byte}
    {payload : List Byte} {act : State → Answer} {o : ReplyCode} {r : Result} {p : Proposal}
    (run : exec c s = .next (s.take h seq code payload act))
    (next : s.nextRequest = some (h, ⟨seq, code, payload⟩))
    (answer : act (s.popRequest h) = ⟨o, r, (s.popRequest h).agree p⟩) :
    answers c s h ⟨seq, code, payload⟩ o r (fun g => demotionsTold p.newF (s.host g))
      (afterAgreement s p) := by
  rw [State.agree_eq] at answer
  exact answers_of_postsOf run next answer ⟨rfl, rfl, rfl, rfl⟩ ⟨rfl, rfl, rfl, rfl, rfl⟩ rfl rfl

end Sys2Proof.Machine
end

section
/-!
PROOFS. PROPOSE: a length of four bytes, the voter set, the tests in order, and the settlement of
O29 (R148, R149, R154).
-/

namespace Sys2Proof.Machine

open Sys2Proof.Safety

theorem ofBytes_four (b3 b2 b1 b0 : Byte) :
    ofBytes [b3, b2, b1, b0] =
      b3.toNat * 16777216 + b2.toNat * 65536 + b1.toNat * 256 + b0.toNat := by
  simp only [ofBytes, List.foldl_cons, List.foldl_nil]
  omega

/-! ### The voter set (R149) -/

theorem HostSet.eq_none_iff (x : HostSet) :
    x = HostSet.none ↔ ∀ g : HostId, HostSet.has x g = false := by
  refine ⟨?_, fun empty => HostSet.ext_has fun g => ?_⟩
  · rintro rfl g
    exact HostSet.has_ofTest _ g
  · rw [empty g, HostSet.none, HostSet.has_ofTest]

theorem LaneRecord.workedBy_eq (x : LaneRecord) (g : HostId) :
    x.workedBy g = (x.holder == some g && x.state != .free && x.state != .retiring) := by
  have working : x.state.working = (x.state != .free && x.state != .retiring) := by
    cases x.state <;> rfl
  rw [LaneRecord.workedBy, working, Bool.and_comm, Bool.and_assoc]

theorem State.held_popRequest (s : State) (h g : HostId) :
    ((s.popRequest h).port g).held = (s.port g).held := by
  rw [State.port_popRequest]
  split
  case isTrue own => rw [own]
  case isFalse => rfl

/-- The voters of a PROPOSE that the engine has taken, as R149 names them. -/
theorem State.votersFor_popRequest (s : State) (h : HostId) :
    (s.popRequest h).votersFor h =
      HostSet.ofTest fun g =>
        g != h && !(s.port g).held &&
          allLanes.any fun l =>
            (s.lane l).holder == some g && (s.lane l).state != .free &&
              (s.lane l).state != .retiring := by
  simp only [State.votersFor, State.holdsLane, State.held_popRequest, State.lane_popRequest,
    LaneRecord.workedBy_eq, Bool.and_right_comm]

/-! ### The rows of R148 -/

section Propose

variable {h : HostId} {f w : Nat} {s : State}

theorem proposeLength_outside (outside : f < 16 ∨ 16777216 < f ∨ w < 1 ∨ 64 < w) :
    proposeLength h f w s = s.refuse .badArgument := if_pos outside

variable (inside : ¬ (f < 16 ∨ 16777216 < f ∨ w < 1 ∨ 64 < w))

include inside

theorem proposeLength_busy (busy : s.proposal.isSome = true) :
    proposeLength h f w s = s.refuse .busy :=
  (if_neg inside).trans (if_pos busy)

theorem proposeLength_sameLength (noRecord : s.proposal = none) (same : f = s.timebase.f) :
    proposeLength h f w s = s.refuse .badArgument :=
  (if_neg inside).trans <| (if_neg (by simp [noRecord])).trans (if_pos same)

theorem proposeLength_doesNotFit (noRecord : s.proposal = none) (new : f ≠ s.timebase.f)
    (misfit : s.compiledBooksFit h f = false) :
    proposeLength h f w s = s.refuse .doesNotFit :=
  (if_neg inside).trans <| (if_neg (by simp [noRecord])).trans <|
    (if_neg new).trans (if_pos (by simp [misfit]))

/-- The record is made, and with no voter agrees at once (R149). -/
theorem proposeLength_recorded (noRecord : s.proposal = none) (new : f ≠ s.timebase.f)
    (fit : s.compiledBooksFit h f = true) :
    proposeLength h f w s =
      let voters := s.votersFor h
      let p : Proposal := ⟨h, f, w, voters, HostSet.none, .opened⟩
      if voters = HostSet.none then ⟨.agreed, .proposal f w voters, s.agree p⟩
      else
        ⟨.accepted, .proposal f w voters,
          (s.setProposal (some p)).postAll
            (postsOf fun g =>
              if HostSet.has voters g = true then [.proposalOpen h f w] else [])⟩ := by
  simp only [postsOf_filter fun g => Iff.rfl]
  exact (if_neg inside).trans <| (if_neg (by simp [noRecord])).trans <|
    (if_neg new).trans (if_neg (by simp [fit]))

end Propose

theorem exec_propose (h : HostId) (seq f3 f2 f1 f0 w : Byte) (s : State) :
    exec (.propose h seq [f3, f2, f1, f0, w]) s =
      .next (s.take h seq 0x28 [f3, f2, f1, f0, w]
        (proposeLength h
          (f3.toNat * 16777216 + f2.toNat * 65536 + f1.toNat * 256 + f0.toNat) w.toNat)) := by
  rw [← ofBytes_four]
  rfl

/-- Settles O29: the ranges, the record, the F in force and the requester's books in R148's order;
the record AGREED at once where R149 names no voter, and OPEN and told to the voters otherwise. -/
theorem proposeRequest : Obligations.ProposeRequest := by
  intro h seq f3 f2 f1 f0 w s next q c f voters misfit
  have run : exec c s = .next (s.take h seq 0x28 _ (proposeLength h f w.toNat)) :=
    exec_propose h seq f3 f2 f1 f0 w s
  have votersFor : (s.popRequest h).votersFor h = voters := s.votersFor_popRequest h
  refine ⟨fun outside => ?_, fun atLeast atMost opens closes => ?_⟩
  · exact refuses_of_take run next (proposeLength_outside (by omega))
  · have inside : ¬ (f < 16 ∨ 16777216 < f ∨ w.toNat < 1 ∨ 64 < w.toNat) := by omega
    refine ⟨fun busy => ?_, fun noRecord same => ?_, fun noRecord new misfits => ?_,
      fun noRecord new fits => ?_⟩
    · exact refuses_of_take run next (proposeLength_busy inside busy)
    · exact refuses_of_take run next (proposeLength_sameLength inside noRecord same)
    · exact refuses_of_take run next (proposeLength_doesNotFit inside noRecord new
        ((State.compiledBooksFit_eq_false_iff _ h f).2 misfits))
    · have fit : (s.popRequest h).compiledBooksFit h f = true :=
        Bool.not_eq_false _ ▸ mt (State.compiledBooksFit_eq_false_iff _ h f).1 fits
      have answer := proposeLength_recorded (s := s.popRequest h) inside noRecord new fit
      simp only [votersFor] at answer
      refine ⟨fun empty => ?_, fun ⟨g, votes⟩ => ?_⟩
      · have noVoter : voters = HostSet.none := (HostSet.eq_none_iff voters).2 empty
        have agreed := answers_of_agree run next (answer.trans (if_pos noVoter))
        rw [← noVoter] at agreed
        exact agreed
      · have hasVoter : voters ≠ HostSet.none := fun noVoter => by
          simp [(HostSet.eq_none_iff voters).1 noVoter g] at votes
        exact answers_of_postsOf run next (answer.trans (if_neg hasVoter))
          ⟨rfl, rfl, rfl, rfl⟩ ⟨rfl, rfl, rfl, rfl, rfl⟩ rfl rfl

end Sys2Proof.Machine
end

section
/-!
PROOFS. VOTE: the vote byte, the yes set, an OPEN proposal that ends, the tests in order, and the
settlement of O30 (R150, R154, R157).
-/

namespace Sys2Proof.Machine

open Sys2Proof.Safety

/-! ### The vote byte -/

theorem voteOfByte_zero {v : Byte} (zero : v.toNat = 0) : voteOfByte v = some false :=
  if_pos (BitVec.eq_of_toNat_eq zero)

theorem voteOfByte_one {v : Byte} (one : v.toNat = 1) : voteOfByte v = some true := by
  obtain rfl : v = 1 := BitVec.eq_of_toNat_eq one
  rfl

theorem voteOfByte_above {v : Byte} (above : 1 < v.toNat) : voteOfByte v = none := by
  have notZero : v ≠ 0 := by rintro rfl; simp at above
  have notOne : v ≠ 1 := by rintro rfl; simp at above
  rw [voteOfByte, if_neg notZero, if_neg notOne]

/-! ### The yes set -/

theorem HostSet.add_eq_ofTest (x : HostSet) (h : HostId) :
    HostSet.add x h = HostSet.ofTest fun g => HostSet.has x g || g == h := by
  refine HostSet.ext_has fun g => ?_
  rw [HostSet.has_add, HostSet.has_ofTest]
  by_cases own : g = h <;> simp [own]

/-- A vote completes a yes set within the voter set where every other voter's YES is counted. -/
theorem HostSet.add_eq_iff {yes voters : HostSet} {h : HostId}
    (within : ∀ g : HostId, HostSet.has yes g = true → HostSet.has voters g = true)
    (voter : HostSet.has voters h = true) :
    HostSet.add yes h = voters ↔
      ∀ g : HostId, HostSet.has voters g = true → HostSet.has yes g = true ∨ g = h := by
  rw [HostSet.add_eq_ofTest]
  constructor
  · rintro e g votes
    rw [← e, HostSet.has_ofTest] at votes
    simpa using votes
  · refine fun counted => HostSet.ext_has fun g => ?_
    rw [HostSet.has_ofTest, Bool.eq_iff_iff, Bool.or_eq_true, beq_iff_eq]
    exact ⟨fun yes => yes.elim (within g) fun own => own ▸ voter, counted g⟩

/-- How many more hosts a set has than a set within it. -/
theorem HostSet.length_toList_sub {x y : HostSet}
    (within : ∀ g : HostId, HostSet.has y g = true → HostSet.has x g = true) :
    (HostSet.toList x).length - (HostSet.toList y).length =
      (allHosts.filter fun g => HostSet.has x g && !HostSet.has y g).length := by
  have both : (HostSet.toList x).filter (HostSet.has y) = HostSet.toList y := by
    rw [HostSet.toList, List.filter_filter]
    refine List.filter_congr fun g _ => ?_
    cases inY : HostSet.has y g with
    | false => rfl
    | true => simp [within g inY]
  have rest : (HostSet.toList x).filter (fun g => !HostSet.has y g) =
      allHosts.filter fun g => HostSet.has x g && !HostSet.has y g := by
    rw [HostSet.toList, List.filter_filter]
    exact List.filter_congr fun g _ => Bool.and_comm _ _
  have parts := List.length_eq_length_filter_add (l := HostSet.toList x) (HostSet.has y)
  rw [both, rest] at parts
  omega

/-- The voters left to vote after a YES. -/
theorem HostSet.votersLeft_add {yes voters : HostSet} {h : HostId}
    (within : ∀ g : HostId, HostSet.has yes g = true → HostSet.has voters g = true)
    (voter : HostSet.has voters h = true) :
    (HostSet.toList voters).length - (HostSet.toList (HostSet.add yes h)).length =
      (allHosts.filter fun g => HostSet.has voters g && !HostSet.has yes g && g != h).length := by
  rw [HostSet.length_toList_sub, HostSet.add_eq_ofTest]
  · simp only [HostSet.has_ofTest, Bool.not_or, ← Bool.and_assoc]
    rfl
  · intro g counted
    rw [HostSet.has_add] at counted
    split at counted
    case isTrue own => exact own ▸ voter
    case isFalse => exact within g counted

/-! ### An OPEN proposal that ends (R157) -/

/-- The record is cleared, and the proposer and each host still in the voter set are told. -/
theorem State.endProposal_opened {s : State} {p : Proposal} (record : s.proposal = some p)
    (opened : p.state = .opened) (o : ProposalOutcome) :
    s.endProposal p o =
      (s.setProposal none).postAll
        (postsOf fun g =>
          if g = p.proposer ∨ HostSet.has p.voters g = true then [.proposalEnded o] else []) := by
  have clear : s.clearProposal = s.setProposal none := by
    simp [State.clearProposal, record, opened]
  have listed := postsOf_filter (P := fun g => g = p.proposer ∨ HostSet.has p.voters g = true)
    (p := fun g => g == p.proposer || HostSet.has p.voters g) (fun g => by simp) (.proposalEnded o)
  rw [State.endProposal, clear, listed]

/-! ### The rows of R150 -/

section Vote

variable {h : HostId} {yes : Bool} {s : State} {p : Proposal}

theorem castVote_noProposal (noRecord : s.proposal = none) :
    castVote h yes s = s.refuse .noProposal := by
  simp only [castVote, noRecord]

theorem castVote_notVoter (record : s.proposal = some p)
    (excluded : HostSet.has p.voters h = false ∨ HostSet.has p.yes h = true) :
    castVote h yes s = s.refuse .notVoter := by
  simp only [castVote, record]
  exact if_pos (by simpa using excluded)

variable (record : s.proposal = some p) (voter : HostSet.has p.voters h = true)
  (uncounted : HostSet.has p.yes h = false)

include record voter uncounted

/-- NO of a voter not yet counted. -/
theorem castVote_no :
    castVote h false s = ⟨.done, .voteEnded .rejected, s.endProposal p .rejected⟩ := by
  simp [castVote, record, voter, uncounted]

theorem castVote_doesNotFit (misfit : s.compiledBooksFit h p.newF = false) :
    castVote h true s = s.refuse .doesNotFit := by
  simp [castVote, record, voter, uncounted, misfit]

/-- YES of a voter not yet counted, whose books fit: the last one agrees. -/
theorem castVote_yes (fit : s.compiledBooksFit h p.newF = true) :
    castVote h true s =
      if HostSet.add p.yes h = p.voters then
        ⟨.agreed, .none, s.agree { p with yes := HostSet.add p.yes h }⟩
      else
        ⟨.done,
          .votersLeft
            ((HostSet.toList p.voters).length - (HostSet.toList (HostSet.add p.yes h)).length),
          s.setProposal (some { p with yes := HostSet.add p.yes h })⟩ := by
  simp [castVote, record, voter, uncounted, fit]

end Vote

/-! ### The command -/

theorem exec_vote_misread {h : HostId} {seq v : Byte} (s : State) (misread : voteOfByte v = none) :
    exec (.vote h seq [v]) s = .next (s.take h seq 0x29 [v] fun t => t.refuse .badArgument) := by
  change execVote h seq _ s = _
  simp only [execVote, misread]

theorem exec_vote_read {h : HostId} {seq v : Byte} {yes : Bool} (s : State)
    (vote : voteOfByte v = some yes) :
    exec (.vote h seq [v]) s = .next (s.take h seq 0x29 [v] (castVote h yes)) := by
  change execVote h seq _ s = _
  simp only [execVote, vote]

/-- Settles O30: the vote byte, the record, the voter and the voter's books in R150's order; NO ends
the proposal, YES joins the yes set, and the YES that completes it makes the record AGREED. -/
theorem voteRequest : Obligations.VoteRequest := by
  intro h seq v s next q c
  refine ⟨fun above => refuses_of_take (exec_vote_misread s (voteOfByte_above above)) next rfl,
    fun atMost => ?_⟩
  obtain ⟨yes, vote⟩ : ∃ yes, voteOfByte v = some yes := by
    rcases Nat.le_one_iff_eq_zero_or_eq_one.1 atMost with zero | one
    · exact ⟨false, voteOfByte_zero zero⟩
    · exact ⟨true, voteOfByte_one one⟩
  have run : exec c s = .next (s.take h seq 0x29 [v] (castVote h yes)) := exec_vote_read s vote
  refine ⟨fun noRecord => refuses_of_take run next (castVote_noProposal noRecord),
    fun p record => ⟨fun excluded => refuses_of_take run next (castVote_notVoter record excluded),
      fun voter uncounted opened within => ⟨fun no => ?_, fun isYes => ?_⟩⟩⟩
  · have run := exec_vote_read (h := h) (seq := seq) s (voteOfByte_zero no)
    have answer := castVote_no (s := s.popRequest h) record voter uncounted
    rw [State.endProposal_opened (s := s.popRequest h) record opened] at answer
    exact answers_of_postsOf run next answer ⟨rfl, rfl, rfl, rfl⟩ ⟨rfl, rfl, rfl, rfl, rfl⟩ rfl rfl
  · have run := exec_vote_read (h := h) (seq := seq) s (voteOfByte_one isYes)
    refine ⟨fun misfits => ?_, fun fits => ?_⟩
    · exact refuses_of_take run next (castVote_doesNotFit record voter uncounted
        ((State.compiledBooksFit_eq_false_iff _ h p.newF).2 misfits))
    · have answer := castVote_yes (s := s.popRequest h) record voter uncounted
        ((State.compiledBooksFit_iff _ h p.newF).2 fits)
      refine ⟨fun counted => ?_, fun ⟨g, votes, waiting, other⟩ => ?_⟩
      · have last := (HostSet.add_eq_iff within voter).2 counted
        rw [if_pos last, last] at answer
        exact answers_of_agree run next answer
      · have more : HostSet.add p.yes h ≠ p.voters := fun last => by
          have counted := (HostSet.add_eq_iff within voter).1 last g votes
          simp [waiting, other] at counted
        rw [if_neg more, HostSet.votersLeft_add within voter, HostSet.add_eq_ofTest] at answer
        exact answers_of_take run next answer ⟨rfl, rfl, rfl, rfl⟩ ⟨rfl, rfl, rfl, rfl, rfl⟩ rfl

end Sys2Proof.Machine
end

section
/-!
PROOFS. The notice queue: when two notices match, what each of the four steps does to a queue that
11.3 keeps, and the settlement of O53 (R176 to R179).
-/

namespace Sys2Proof.Machine

open Sys2Proof.Safety

/-! ### When two notices match -/

@[simp] theorem bookNumber_inj (a b : BookId) : bookNumber a = bookNumber b ↔ a = b := by
  cases a <;> cases b <;> simp [bookNumber]

/-- R176 case by case: of the pairs of two kinds none agrees, and two OVERFLOW entries have no
key. -/
theorem NoticeBody.matches_of_keysAgree {a b : NoticeBody} (agree : keysAgree a b) :
    a.matches b = true := by
  obtain ⟨kind, key, keyed⟩ := agree
  cases a <;> cases b <;> cases kind
  case overflow.overflow => exact absurd rfl keyed
  case proposalOpen.proposalOpen | proposalEnded.proposalEnded | frameLength.frameLength => rfl
  all_goals simpa [NoticeBody.matches, noticeKey, BitVec.toNat_inj, Fin.ext_iff] using key

theorem NoticeBody.keysAgree_of_matches {a b : NoticeBody} (same : a.matches b = true) :
    keysAgree a b := by
  revert same
  fun_cases NoticeBody.matches a b
  case case16 => exact nofun
  all_goals simp +contextual [keysAgree, noticeTable, noticeKey]

/-! ### The queue as 11.3 keeps it -/

theorem overflowCount_eq_some {y : Notice} {k : Nat} :
    overflowCount y = some k ↔ y.body = .overflow k := by
  unfold overflowCount
  split <;> simp_all

theorem Notice.isOverflow_of_body {y : Notice} {k : Nat} (body : y.body = .overflow k) :
    y.isOverflow = true := by
  simp [Notice.isOverflow, body]

theorem Notice.countDiscarded_of_body {y : Notice} {k : Nat} (body : y.body = .overflow k) :
    y.countDiscarded = { y with body := .overflow (min 255 (k + 1)) } := by
  simp [Notice.countDiscarded, saturate, body]

theorem Notice.countDiscarded_ordinary {y : Notice} (ordinary : y.isOverflow = false) :
    y.countDiscarded = y := by
  unfold Notice.countDiscarded
  split
  · next body => simp [Notice.isOverflow_of_body body] at ordinary
  · rfl

/-- With an OVERFLOW entry only as the youngest, the queue holds one just when the youngest is
one. -/
theorem any_isOverflow_eq_youngest {ms : List Notice} {y : Notice} (youngest : ms.getLast? = some y)
    (older : ∀ m ∈ ms.dropLast, m.isOverflow = false) :
    ms.any Notice.isOverflow = y.isOverflow := by
  obtain ⟨front, rfl⟩ := List.getLast?_eq_some_iff.1 youngest
  simp_all

/-- One more discarded notice is counted by the youngest entry alone. -/
theorem map_countDiscarded_eq {ms : List Notice} {y : Notice} (youngest : ms.getLast? = some y)
    (older : ∀ m ∈ ms.dropLast, m.isOverflow = false) :
    ms.map Notice.countDiscarded = ms.dropLast ++ [y.countDiscarded] := by
  obtain ⟨front, rfl⟩ := List.getLast?_eq_some_iff.1 youngest
  rw [List.dropLast_concat] at older ⊢
  have kept : front.map Notice.countDiscarded = front :=
    (List.map_congr_left fun m mem => Notice.countDiscarded_ordinary (older m mem)).trans
      (List.map_id' front)
  rw [List.map_append, kept, List.map_singleton]

/-! ### What a merge makes the port forget -/

theorem Port.forgetNotice_ack {p : Port} (named : p.ack = .notice) :
    p.forgetNotice.ack = .nothing := if_pos named

theorem Port.forgetNotice_link {p : Port} {m : FrameKind × List Byte × Named}
    (chosen : m ∈ chosenIn p.link) (offers : m.2.2 = .notice) :
    p.forgetNotice.link = .offering m.1 m.2.1 .nothing := by
  unfold chosenIn at chosen
  split at chosen
  · next link =>
    cases chosen
    cases offers
    simp [Port.forgetNotice, link]
  · contradiction

/-! ### The four steps, each under its condition -/

section Queue
variable {p : Port} {n y : Notice}

theorem Port.enqueue_empty (empty : p.notices = []) : p.enqueue n = { p with notices := [n] } := by
  simp [Port.enqueue, empty]

theorem Port.enqueue_merge (youngest : p.notices.getLast? = some y)
    (ordinary : y.isOverflow = false) (same : y.body.matches n.body = true) :
    p.enqueue n =
      { (if p.notices.length = 1 then p.forgetNotice else p) with
        notices := p.notices.dropLast ++ [y.merged n] } := by
  simp [Port.enqueue, youngest, ordinary, same]

theorem Port.enqueue_discard (youngest : p.notices.getLast? = some y)
    (older : ∀ m ∈ p.notices.dropLast, m.isOverflow = false) (overflow : y.isOverflow = true) :
    p.enqueue n = { p with notices := p.notices.dropLast ++ [y.countDiscarded] } := by
  simp [Port.enqueue, youngest, any_isOverflow_eq_youngest youngest older, overflow,
    map_countDiscarded_eq youngest older]

theorem Port.enqueue_overflow (youngest : p.notices.getLast? = some y)
    (older : ∀ m ∈ p.notices.dropLast, m.isOverflow = false) (ordinary : y.isOverflow = false)
    (other : y.body.matches n.body = false) (full : p.notices.length = 15) :
    p.enqueue n = { p with notices := p.notices ++ [n.overflowFor] } := by
  simp [Port.enqueue, youngest, any_isOverflow_eq_youngest youngest older, ordinary, other, full,
    maxOrdinaryNotices]

theorem Port.enqueue_append (youngest : p.notices.getLast? = some y)
    (older : ∀ m ∈ p.notices.dropLast, m.isOverflow = false) (ordinary : y.isOverflow = false)
    (other : y.body.matches n.body = false) (room : p.notices.length < 15) :
    p.enqueue n = { p with notices := p.notices ++ [n] } := by
  simp [Port.enqueue, youngest, any_isOverflow_eq_youngest youngest older, ordinary, other,
    maxOrdinaryNotices, Nat.not_le.2 room]

end Queue

/-- Settles O53: the kinds and keys of R176, then the steps of R177 in order, each by its equation;
only a merge into the sole entry reaches the acknowledgment state and the transaction (R178). -/
theorem noticeQueueSteps : Obligations.NoticeQueueSteps := by
  refine ⟨fun a b => ⟨NoticeBody.keysAgree_of_matches, NoticeBody.matches_of_keysAgree⟩,
    fun p n _ once _ older => ⟨fun empty => by rw [Port.enqueue_empty empty], fun y youngest =>
      ⟨fun ordinary same => ?_, fun k counts => ?_, fun ordinary other full => ?_,
        fun ordinary other room => ?_⟩⟩⟩
  · have merge := Port.enqueue_merge youngest ordinary same
    refine ⟨by rw [merge]; rfl, fun named single => ?_, fun m chosen offers single => ?_,
      fun several => ?_⟩
    · rw [merge, if_pos single]
      exact Port.forgetNotice_ack named
    · rw [merge, if_pos single]
      exact Port.forgetNotice_link chosen offers
    · rw [merge, if_neg (by omega)]
      exact ⟨rfl, rfl⟩
  · have body := overflowCount_eq_some.1 counts
    rw [Port.enqueue_discard youngest older (Notice.isOverflow_of_body body),
      Notice.countDiscarded_of_body body]
  · rw [Port.enqueue_overflow youngest older ordinary other full, Notice.overflowFor, once]
  · rw [Port.enqueue_append youngest older ordinary other room]

end Sys2Proof.Machine
end

section
/-!
PROOFS. What a step can do, said once: the moves of one lane and of one host record that a request can
make, the effect of an answered request, and the events of the part. Every invariant is derived from
these.
-/

namespace Sys2Proof.Machine

open Sys2Proof.Safety

/-! ### What a request can do -/

/-- What a request of host `h` can make of one lane: given up, settings staged, offered, its offer
ended, accepted, or its fault flag cleared (R24, R27, R121 to R125, R142). -/
inductive LaneMove (h : HostId) (x : Lane) : Lane → Prop where
  | retire (holds : x.holder = some h) (held : x.state = .held) : LaneMove h x x.retire
  | stage (p : Settings) (range : settingsOk p) (holds : x.holder = some h)
      (state : x.state = .held ∨ x.state = .offered) : LaneMove h x { x with pending := some p }
  | offer (target : HostId) (n : Nat) (range : 1 ≤ n ∧ n ≤ 64) (other : target ≠ h)
      (holds : x.holder = some h) (held : x.state = .held) (sound : x.faultFlag = false) :
      LaneMove h x { x with state := .offered, offer := some ⟨target, some n⟩ }
  | endOffer (offered : x.state = .offered) : LaneMove h x x.offerEnded
  | accept (offered : x.state = .offered) (target : x.offer.map (·.target) = some h) :
      LaneMove h x { x with state := .handover, offer := some ⟨h, none⟩ }
  | clear (holds : x.holder = some h) (state : x.state ≠ .retiring ∧ x.state ≠ .handover)
      (flag : x.faultFlag = true) (count : x.faultCount < 3) :
      LaneMove h x (({ x with faultFlag := false } : Lane).drive false none).schedule

/-- What a request of host `h` can make of its own host record, the compile queue staying as it is
(R48 to R51, R64 to R70, R99 to R106). -/
inductive HostMove (s : State) (h : HostId) : HostRecord → Prop where
  | edit (b : BookId) (cues : List Cue) (gate : (s.host h).gate b = none)
      (fields : ∀ c ∈ cues, cueOk c = true ∨ ∃ a, c ∈ (s.book h a).cues)
      (short : cues.length ≤ 512 ∨ ∃ a, cues.length ≤ (s.book h a).cues.length)
      (room : cues.length ≤ (s.book h b).cues.length ∨
        s.slotTest h (cues.length - (s.book h b).cues.length) = true) :
      HostMove s h
        (((s.host h).setBook b { ((s.host h).book b).edited with cues := cues }).setSlots
          ((s.host h).slots + cues.length - (s.book h b).cues.length))
  | openLoad (b : BookId) (n : Nat) (positive : 1 ≤ n) (gate : (s.host h).gate b = none)
      (short : (s.book h b).cues.length + n ≤ 512) (noLoad : (s.host h).load = none)
      (room : s.slotTest h n = true) :
      HostMove s h
        ((((s.host h).setBook b ((s.host h).book b).edited).setSlots
          ((s.host h).slots + n)).setLoad (some ⟨b, n, 0, (s.book h b).cues.length, 0⟩))
  | feed (ld : Load) (cues : List Cue) (load : (s.host h).load = some ld)
      (fields : ∀ c ∈ cues, cueOk c = true) (more : ld.received + cues.length < ld.declared) :
      HostMove s h
        (((s.host h).setBook ld.book
            { (s.host h).book ld.book with cues := ((s.host h).book ld.book).cues ++ cues }).setLoad
          (some { ld with received := ld.received + cues.length, idle := 0 }))
  | complete (ld : Load) (cues : List Cue) (load : (s.host h).load = some ld)
      (fields : ∀ c ∈ cues, cueOk c = true) (fits : cues.length ≤ ld.declared - ld.received)
      (all : ld.declared ≤ ld.received + cues.length) :
      HostMove s h
        (((s.host h).setBook ld.book
            { (s.host h).book ld.book with cues := ((s.host h).book ld.book).cues ++ cues }).setLoad
          none)
  | rollBack (ld : Load) (load : (s.host h).load = some ld) :
      HostMove s h ((s.host h).rollBack ld)
  | swap (b : BookId) (single : (s.run h).mode ≠ .alternate)
      (ready : (s.book h b).state = .ready) (idle : (s.run h).action = .none) :
      HostMove s h
        (((s.host h).setBook b (((s.host h).book b).inState .pending)).setRun
          { s.run h with action := .swapTo b })
  | cancelSwap (b : BookId) (action : (s.run h).action = .swapTo b) :
      HostMove s h
        (((s.host h).setBook b (((s.host h).book b).inState .ready)).setRun
          { s.run h with action := .none })
  | halt (single : (s.run h).mode ≠ .alternate) (idle : (s.run h).action = .none)
      (active : (s.run h).active ≠ none) :
      HostMove s h ((s.host h).setRun { s.run h with action := .halt })
  | setSingle : HostMove s h ((s.host h).setRun { s.run h with mode := .single, turn := 0 })
  | setAlternate (b : BookId) (runA runB turn : Nat) (rangeA : 1 ≤ runA ∧ runA ≤ 255)
      (rangeB : 1 ≤ runB ∧ runB ≤ 255) (counter : turn = runA ∨ turn = runB)
      (idle : (s.run h).action = .none) (active : (s.run h).active = some b) :
      HostMove s h
        ((s.host h).setRun
          { s.run h with mode := .alternate, runA := runA, runB := runB, turn := turn })

/-- What the owner of a request of host `h` can leave of the state it answers in (R169). -/
inductive OwnerEffect (h : HostId) (s : State) : State → Prop where
  | unchanged : OwnerEffect h s s
  | granted (m : BitVec 16)
      (free : ∀ l : LaneId, m.getLsbD l.val = true → (s.lane l).state = .free) :
      OwnerEffect h s (s.grant h (lanesOfMask m))
  | lane (l : LaneId) (x : Lane) (ps : Posts) (move : LaneMove h (s.lane l) x) :
      OwnerEffect h s ((s.setLane l x).postAll ps)
  | host (r : HostRecord) (move : HostMove s h r) : OwnerEffect h s (s.setHost h r)
  | compile (b : BookId) (gate : (s.host h).gate b = none) (noJob : ∀ j ∈ s.jobs, j.host ≠ h) :
      OwnerEffect h s
        ((s.setBook h b { (s.book h b).edited with state := .compiling }).setJobs
          (s.jobs ++ [⟨h, b⟩]))
  | abort (j : Job) (own : j.host = h) (job : j ∈ s.jobs) :
      OwnerEffect h s ((s.setBook h j.book (s.book h j.book).edited).dropJob h)
  | propose (f w : Nat) (noRecord : s.proposal = none) (range : frameLengthOk f)
      (window : 1 ≤ w ∧ w ≤ 64) (voters : s.votersFor h ≠ HostSet.none) (ps : Posts) :
      OwnerEffect h s
        ((s.setProposal (some ⟨h, f, w, s.votersFor h, HostSet.none, .opened⟩)).postAll ps)
  | proposeAgreed (f w : Nat) (noRecord : s.proposal = none) (range : frameLengthOk f)
      (window : 1 ≤ w ∧ w ≤ 64) :
      OwnerEffect h s (s.agree ⟨h, f, w, HostSet.none, HostSet.none, .opened⟩)
  | vote (p : Proposal) (record : s.proposal = some p) (voter : HostSet.has p.voters h = true)
      (waiting : HostSet.has p.yes h = false) (left : HostSet.add p.yes h ≠ p.voters) :
      OwnerEffect h s (s.setProposal (some { p with yes := HostSet.add p.yes h }))
  | voteAgreed (p : Proposal) (record : s.proposal = some p)
      (every : HostSet.add p.yes h = p.voters) :
      OwnerEffect h s (s.agree { p with yes := HostSet.add p.yes h })
  | ended (p : Proposal) (o : ProposalOutcome) (record : s.proposal = some p) :
      OwnerEffect h s (s.endProposal p o)

/-! ### The answers of the owners -/

variable {h : HostId} {s : State}

theorem claimLanes_effect (m : BitVec 16) : OwnerEffect h s (claimLanes h m s).state := by
  unfold claimLanes
  split
  · exact .unchanged
  · split
    · exact .unchanged
    · rename_i free
      exact .granted m (by simpa using free)

theorem State.onLane_effect {payload : List Byte} {f : LaneId → Answer}
    (each : ∀ l, OwnerEffect h s (f l).state) : OwnerEffect h s (s.onLane payload f).state := by
  unfold State.onLane
  split
  · split
    · exact each _
    · exact .unchanged
  · exact .unchanged

theorem State.onBook_effect {payload : List Byte} {f : BookId → Answer}
    (each : ∀ b, OwnerEffect h s (f b).state) : OwnerEffect h s (s.onBook payload f).state := by
  unfold State.onBook
  split
  · split
    · exact each _
    · exact .unchanged
  · exact .unchanged

theorem State.onNothing_effect {payload : List Byte} {f : Answer}
    (each : OwnerEffect h s f.state) : OwnerEffect h s (s.onNothing payload f).state := by
  unfold State.onNothing
  split
  · exact each
  · exact .unchanged

/-- A write of one lane with at most one notice is an effect on that lane. -/
theorem OwnerEffect.ofLane {l : LaneId} {x : Lane} (move : LaneMove h (s.lane l) x) :
    OwnerEffect h s (s.setLane l x) := .lane l x [] move

theorem OwnerEffect.ofLaneTold {l : LaneId} {x : Lane} {g : HostId} {b : NoticeBody}
    (move : LaneMove h (s.lane l) x) : OwnerEffect h s ((s.setLane l x).post g b) :=
  .lane l x [(g, b)] move

theorem releaseLane_effect (l : LaneId) : OwnerEffect h s (releaseLane h l s).state := by
  unfold releaseLane
  dsimp only
  split
  · exact .unchanged
  · rename_i holds
    split <;> try exact .unchanged
    rename_i held
    exact .ofLane (.retire (not_not.1 holds) held)

theorem settingsOfBytes_range {flags spacing settle : Byte} {p : Settings}
    (read : settingsOfBytes flags spacing settle = some p) : settingsOk p := by
  unfold settingsOfBytes at read
  split at read
  · cases read
    have := spacing.isLt
    simp_all [settingsOk]
    omega
  · cases read

theorem stageSettings_effect (l : LaneId) {p : Settings} (range : settingsOk p) :
    OwnerEffect h s (stageSettings h l p s).state := by
  unfold stageSettings
  dsimp only
  split
  · exact .unchanged
  · rename_i holds
    split <;> try exact .unchanged
    rename_i free retiring handover
    split
    · exact .unchanged
    · refine .ofLane (.stage p range (not_not.1 holds) ?_)
      cases state : (s.lane l).state <;> simp_all

theorem inRange_eq_some {lo hi n m : Nat} (read : inRange lo hi n = some m) :
    m = n ∧ lo ≤ n ∧ n ≤ hi := by
  unfold inRange at read
  split at read
  · cases read
    exact ⟨rfl, ‹_›⟩
  · cases read

theorem offerLane_effect (l : LaneId) (g : HostId) {n : Nat} (range : 1 ≤ n ∧ n ≤ 64) :
    OwnerEffect h s (offerLane h l g n s).state := by
  unfold offerLane
  dsimp only
  split
  · exact .unchanged
  · rename_i other
    split
    · exact .unchanged
    · rename_i holds
      split <;> try exact .unchanged
      rename_i held
      split
      · exact .unchanged
      · rename_i sound
        split
        · exact .unchanged
        · exact .ofLaneTold (.offer g n range other (not_not.1 holds) held (by simpa using sound))

theorem withdrawOffer_effect (l : LaneId) : OwnerEffect h s (withdrawOffer h l s).state := by
  unfold withdrawOffer
  dsimp only
  split
  · exact .unchanged
  · split
    · exact .unchanged
    · split
      · rename_i offered _
        exact .ofLaneTold (.endOffer offered)
      · exact .unchanged

theorem State.onOffer_effect {l : LaneId} {f : HostId → Answer}
    (each : ∀ g, (s.lane l).state = .offered → (s.lane l).offer.map (·.target) = some h →
      OwnerEffect h s (f g).state) : OwnerEffect h s (s.onOffer h l f).state := by
  unfold State.onOffer
  split
  · exact .unchanged
  · rename_i mine
    have target := ((LaneRecord.offeredTo_iff (s.lane l).toLaneRecord h).1 (by simpa using mine)).2
    split
    · rename_i offered _
      exact each _ offered target
    · exact .unchanged

theorem declineOffer_effect (l : LaneId) : OwnerEffect h s (declineOffer h l s).state := by
  rw [declineOffer_eq_onOffer]
  exact State.onOffer_effect fun _ offered _ => .ofLaneTold (.endOffer offered)

theorem acceptOffer_effect (l : LaneId) : OwnerEffect h s (acceptOffer h l s).state := by
  rw [acceptOffer_eq_onOffer]
  exact State.onOffer_effect fun _ offered target => .ofLane (.accept offered target)

theorem clearFault_effect (l : LaneId) : OwnerEffect h s (clearFault h l s).state := by
  unfold clearFault
  dsimp only
  split
  · exact .unchanged
  · rename_i holds
    split <;> try exact .unchanged
    rename_i retiring handover
    split
    · exact .unchanged
    · rename_i flag
      split
      · exact .unchanged
      · rename_i count
        exact .ofLane (.clear (not_not.1 holds) ⟨retiring, handover⟩ (by simpa using flag)
          (by simpa [faultLimit] using count))

/-! ### The answers about books -/

theorem State.gated_effect {b : BookId} {f : Answer}
    (passed : (s.host h).gate b = none → OwnerEffect h s f.state) :
    OwnerEffect h s (s.gated h b f).state := by
  unfold State.gated
  split
  · exact .unchanged
  · exact passed ‹_›

/-- An accepted edit is a move of the host record. -/
theorem State.edited_effect {b : BookId} {cues : List Cue} {slots : Nat}
    (gate : (s.host h).gate b = none)
    (count : slots = (s.host h).slots + cues.length - (s.book h b).cues.length)
    (fields : ∀ c ∈ cues, cueOk c = true ∨ ∃ a, c ∈ (s.book h a).cues)
    (short : cues.length ≤ 512 ∨ ∃ a, cues.length ≤ (s.book h a).cues.length)
    (room : cues.length ≤ (s.book h b).cues.length ∨
      s.slotTest h (cues.length - (s.book h b).cues.length) = true) :
    OwnerEffect h s (s.edited h b cues slots).state := by
  subst count
  exact .host _ (.edit b cues gate fields short room)

theorem putCue_effect (b : BookId) (i : Nat) {c : Cue} (field : cueOk c = true) :
    OwnerEffect h s (putCue h b i c s).state := by
  refine State.gated_effect fun gate => ?_
  dsimp only
  split
  · refine State.edited_effect gate (by simp) (fun d mem => ?_) (.inr ⟨b, by simp⟩) (.inl (by simp))
    rcases List.mem_or_eq_of_mem_set mem with old | rfl
    · exact .inr ⟨b, old⟩
    · exact .inl field
  · split
    · rename_i append
      split
      · rename_i room
        refine State.edited_effect gate (by simp; omega) (fun d mem => ?_) (.inl ?_)
          (.inr (by simpa using room))
        · rcases List.mem_append.1 mem with old | new
          · exact .inr ⟨b, old⟩
          · exact .inl (by rw [List.mem_singleton.1 new]; exact field)
        · have short := append.2
          simp only [maxBook] at short
          simpa using short
      · exact .unchanged
    · exact .unchanged

theorem dropCue_effect (b : BookId) (i : Nat) : OwnerEffect h s (dropCue h b i s).state := by
  refine State.gated_effect fun gate => ?_
  dsimp only
  split
  · rename_i below
    have length := List.length_eraseIdx_of_lt below
    exact State.edited_effect gate (by omega)
      (fun d mem => .inr ⟨b, List.mem_of_mem_eraseIdx mem⟩) (.inr ⟨b, by omega⟩) (.inl (by omega))
  · exact .unchanged

theorem clearBook_effect (b : BookId) : OwnerEffect h s (clearBook h b s).state :=
  State.gated_effect fun gate =>
    State.edited_effect gate (by simp) (by simp) (.inl (by simp)) (.inl (by simp))

theorem copyBook_effect (src dst : BookId) : OwnerEffect h s (copyBook h src dst s).state := by
  refine State.gated_effect fun gate => ?_
  have fields : ∀ c ∈ (s.book h src).cues, cueOk c = true ∨ ∃ a, c ∈ (s.book h a).cues :=
    fun c mem => .inr ⟨src, mem⟩
  dsimp only
  split
  · split
    · rename_i longer room
      exact State.edited_effect gate (by omega) fields (.inr ⟨src, le_rfl⟩) (.inr room)
    · exact .unchanged
  · rename_i shorter
    exact State.edited_effect gate (by omega) fields (.inr ⟨src, le_rfl⟩) (.inl (by omega))

theorem openLoad_effect (b : BookId) {n : Nat} (positive : 1 ≤ n) :
    OwnerEffect h s (openLoad h b n s).state := by
  refine State.gated_effect fun gate => ?_
  dsimp only
  split
  · exact .unchanged
  · rename_i short
    split
    · exact .unchanged
    · rename_i noLoad
      split
      · exact .unchanged
      · rename_i room
        exact .host _ (.openLoad b n positive gate (not_lt.1 short)
          (by simpa using noLoad) (by simpa using room))

theorem feedLoad_effect {cues : List Cue} (fields : ∀ c ∈ cues, cueOk c = true) :
    OwnerEffect h s (feedLoad h cues s).state := by
  unfold feedLoad
  dsimp only
  split
  · exact .unchanged
  · rename_i ld load
    split
    · exact .unchanged
    · split
      · exact .host _ (.feed ld cues load fields ‹_›)
      · exact .host _ (.complete ld cues load fields (by omega) (by omega))

theorem cancelLoad_effect : OwnerEffect h s (cancelLoad h s).state := by
  unfold cancelLoad
  split
  · exact .unchanged
  · exact .host _ (.rollBack _ ‹_›)

theorem startCompile_effect (b : BookId) : OwnerEffect h s (startCompile h b s).state := by
  refine State.gated_effect fun gate => ?_
  dsimp only
  split
  · exact .unchanged
  · rename_i noJob
    exact .compile b gate (by simpa using noJob)

theorem abortCompile_effect : OwnerEffect h s (abortCompile h s).state := by
  unfold abortCompile
  split
  · exact .unchanged
  · rename_i j job
    exact .abort j (by simpa using List.find?_some job) (List.mem_of_find?_eq_some job)

theorem HostRecord.ready_of_swapRefusal {r : HostRecord} {b : BookId}
    (passed : r.swapRefusal b = none) : (r.book b).state = .ready := by
  unfold HostRecord.swapRefusal at passed
  split at passed
  · assumption
  all_goals first | cases passed | (split at passed <;> cases passed)

theorem swapBook_effect (b : BookId) : OwnerEffect h s (swapBook h b s).state := by
  unfold swapBook
  dsimp only
  split
  · exact .unchanged
  · rename_i single
    split
    · exact .unchanged
    · rename_i ready
      split
      · exact .unchanged
      · rename_i idle
        have move := HostMove.swap (s := s) (h := h) b single
          (HostRecord.ready_of_swapRefusal ready)
          (not_not.1 idle)
        have merged := OwnerEffect.host _ move
        simpa [State.moveBook, State.setRun, State.setBook, State.book, State.run] using merged

theorem cancelSwap_effect : OwnerEffect h s (cancelSwap h s).state := by
  unfold cancelSwap
  split
  · rename_i b action
    have merged := OwnerEffect.host _ (HostMove.cancelSwap (s := s) (h := h) b action)
    simpa [State.moveBook, State.setRun, State.setBook, State.book, State.run] using merged
  · exact .unchanged

theorem haltRun_effect : OwnerEffect h s (haltRun h s).state := by
  unfold haltRun
  dsimp only
  split
  · exact .unchanged
  · rename_i single
    split
    · exact .unchanged
    · rename_i idle
      split
      · exact .unchanged
      · rename_i active
        exact .host _ (.halt single (not_not.1 idle) (by simp [active]))

theorem setSingle_effect : OwnerEffect h s (setSingle h s).state := .host _ .setSingle

theorem setAlternate_effect {runA runB : Nat} (rangeA : runA ≤ 255) (rangeB : runB ≤ 255) :
    OwnerEffect h s (setAlternate h runA runB s).state := by
  unfold setAlternate
  dsimp only
  split
  · exact .unchanged
  · rename_i positive
    split
    · exact .unchanged
    · rename_i idle
      split
      · exact .unchanged
      · rename_i b active
        refine .host _ (.setAlternate b runA runB _ (by omega) (by omega) ?_ (not_not.1 idle) active)
        cases b
        · exact .inl rfl
        · exact .inr rfl

/-! ### The answers about the frame length -/

theorem proposeLength_effect (f w : Nat) : OwnerEffect h s (proposeLength h f w s).state := by
  unfold proposeLength
  dsimp only
  split
  · exact .unchanged
  · rename_i range
    simp only [minFrame, maxFrame, not_or, not_lt] at range
    obtain ⟨low, high, least, most⟩ := range
    split
    · exact .unchanged
    · rename_i noRecord
      have noRecord : s.proposal = none := by simpa using noRecord
      split
      · exact .unchanged
      · split
        · exact .unchanged
        · split
          · rename_i voters
            rw [voters]
            dsimp only
            exact .proposeAgreed f w noRecord ⟨low, high⟩ ⟨least, most⟩
          · exact .propose f w noRecord ⟨low, high⟩ ⟨least, most⟩ ‹_› _

theorem castVote_effect (yes : Bool) : OwnerEffect h s (castVote h yes s).state := by
  unfold castVote
  split
  · exact .unchanged
  · rename_i p record
    split
    · exact .unchanged
    · rename_i voter
      have voter : HostSet.has p.voters h = true ∧ HostSet.has p.yes h = false := by
        simpa using voter
      split
      · exact OwnerEffect.ended p .rejected record
      · split
        · exact .unchanged
        · dsimp only
          split
          · dsimp only
            exact .voteAgreed p record ‹_›
          · exact .vote p record voter.1 voter.2 ‹_›

theorem withdrawProposal_effect : OwnerEffect h s (withdrawProposal h s).state := by
  unfold withdrawProposal
  split
  · exact .unchanged
  · rename_i p record
    split
    · exact .unchanged
    · split
      · exact .unchanged
      · exact OwnerEffect.ended p .withdrawn record

end Sys2Proof.Machine
end

section
/-!
PROOFS. The request commands: each one is the engine's taking of a request with the answer of its
owner, and the cues a payload carries are in their ranges (R37, R38, R169).
-/

namespace Sys2Proof.Machine

open Sys2Proof.Safety

/-! ### Cues read from bytes -/

theorem ofBytes_three (b2 b1 b0 : Byte) :
    ofBytes [b2, b1, b0] = b2.toNat * 65536 + b1.toNat * 256 + b0.toNat := by
  simp [ofBytes]
  omega

theorem cueAction_width {b0 : Byte} {w : Nat} {a : Action} (read : cueAction b0 w = some a)
    {l : LaneId} {v : Nat} (pulse : a = .pulse l v) : v = w ∧ w ≠ 0 := by
  subst pulse
  unfold cueAction at read
  split at read
  · cases read
  · cases read
  · split at read
    · cases read
    · cases read
      exact ⟨rfl, ‹_›⟩
  · cases read
  · cases read

/-- The cue that ten bytes spell has every field in its range (R37, R38). -/
theorem cueOk_of_cueOfBytes {bytes : List Byte} {c : Cue} (read : cueOfBytes bytes = some c) :
    cueOk c = true := by
  unfold cueOfBytes at read
  split at read
  · rename_i b0 b1 b2 b3 b4 b5 b6 b7 b8 b9
    split at read
    · rename_i a action
      split at read
      · rename_i period
        cases read
        have offset : ofBytes [b1, b2, b3] ≤ 16777215 := by
          rw [ofBytes_three]
          omega
        have width : ∀ l v, a = .pulse l v → 1 ≤ v ∧ v ≤ 65535 := fun l v pulse => by
          obtain ⟨rfl, positive⟩ := cueAction_width action pulse
          have bound := ofBytes_pair b4 b5
          omega
        have every : b6.toNat ≤ 255 := by omega
        simp only [cueOk, Bool.and_eq_true, decide_eq_true_eq]
        refine ⟨⟨⟨⟨offset, by omega⟩, every⟩, period.2⟩, ?_⟩
        split
        · simpa using width _ _ rfl
        · rfl
      · cases read
    · cases read
  · cases read

theorem cueOk_of_cuesOfChunks {chunks : List (List Byte)} {cues : List Cue}
    (read : cuesOfChunks chunks = .ok cues) : ∀ c ∈ cues, cueOk c = true := by
  unfold cuesOfChunks at read
  split at read
  · cases read
  · cases read
    intro c mem
    obtain ⟨bytes, _, spelled⟩ := List.mem_filterMap.1 mem
    exact cueOk_of_cueOfBytes spelled

/-! ### The request commands -/

/-- A request command is the engine's taking of that request, with an answer of its owner. -/
theorem exec_request {c : Instr} {h : HostId} {q : Request} (asks : requestOf c = some (h, q)) :
    ∃ act : State → Answer, (∀ s, exec c s = .next (s.take h q.seq q.code q.payload act)) ∧
      ∀ s, OwnerEffect h s (act s).state := by
  cases c <;> simp only [requestOf, Option.some.injEq, Prod.mk.injEq, reduceCtorEq] at asks <;>
    try obtain ⟨rfl, rfl⟩ := asks
  case status => exact ⟨_, fun _ => rfl, fun s => State.onNothing_effect .unchanged⟩
  case claim =>
    refine ⟨_, fun _ => rfl, fun s => ?_⟩
    split
    · exact claimLanes_effect _
    · exact .unchanged
  case release => exact ⟨_, fun _ => rfl, fun s => State.onLane_effect releaseLane_effect⟩
  case laneSet =>
    refine ⟨_, fun _ => rfl, fun s => ?_⟩
    split
    · split
      · exact stageSettings_effect _ (settingsOfBytes_range ‹_›)
      · exact .unchanged
    · exact .unchanged
  case laneQuery => exact ⟨_, fun _ => rfl, fun s => State.onLane_effect fun _ => .unchanged⟩
  case offer =>
    refine ⟨_, fun _ => rfl, fun s => ?_⟩
    split
    · split
      · rename_i read
        obtain ⟨rfl, range⟩ := inRange_eq_some read
        exact offerLane_effect _ _ range
      · exact .unchanged
    · exact .unchanged
  case withdraw => exact ⟨_, fun _ => rfl, fun s => State.onLane_effect withdrawOffer_effect⟩
  case decline => exact ⟨_, fun _ => rfl, fun s => State.onLane_effect declineOffer_effect⟩
  case accept => exact ⟨_, fun _ => rfl, fun s => State.onLane_effect acceptOffer_effect⟩
  case faultClear => exact ⟨_, fun _ => rfl, fun s => State.onLane_effect clearFault_effect⟩
  case cuePut =>
    refine ⟨_, fun _ => rfl, fun s => ?_⟩
    split
    · split
      · exact putCue_effect _ _ (cueOk_of_cueOfBytes ‹_›)
      · exact .unchanged
    · exact .unchanged
  case cueDrop =>
    refine ⟨_, fun _ => rfl, fun s => ?_⟩
    split
    · split
      · exact dropCue_effect _ _
      · exact .unchanged
    · exact .unchanged
  case bookClear => exact ⟨_, fun _ => rfl, fun s => State.onBook_effect clearBook_effect⟩
  case bookCopy =>
    refine ⟨_, fun _ => rfl, fun s => ?_⟩
    split
    · split
      · exact copyBook_effect _ _
      · exact .unchanged
    · exact .unchanged
  case bookRead =>
    refine ⟨_, fun _ => rfl, fun s => ?_⟩
    split
    · split
      · unfold readBook
        dsimp only
        split <;> exact .unchanged
      · exact .unchanged
    · exact .unchanged
  case loadOpen =>
    refine ⟨_, fun _ => rfl, fun s => ?_⟩
    split
    · split
      · exact openLoad_effect _ ((inRange_eq_some ‹_›).1 ▸ (inRange_eq_some ‹_›).2.1)
      · exact .unchanged
    · exact .unchanged
  case loadCues =>
    refine ⟨_, fun _ => rfl, fun s => ?_⟩
    split
    · exact .unchanged
    · split
      · exact .unchanged
      · exact feedLoad_effect (cueOk_of_cuesOfChunks ‹_›)
  case loadCancel => exact ⟨_, fun _ => rfl, fun s => State.onNothing_effect cancelLoad_effect⟩
  case compile => exact ⟨_, fun _ => rfl, fun s => State.onBook_effect startCompile_effect⟩
  case compileAbort => exact ⟨_, fun _ => rfl, fun s => State.onNothing_effect abortCompile_effect⟩
  case swap =>
    refine ⟨_, fun _ => rfl, fun s => ?_⟩
    split
    · split
      · exact swapBook_effect _
      · exact .unchanged
    · exact .unchanged
  case swapCancel => exact ⟨_, fun _ => rfl, fun s => State.onNothing_effect cancelSwap_effect⟩
  case halt => exact ⟨_, fun _ => rfl, fun s => State.onNothing_effect haltRun_effect⟩
  case modeSet =>
    refine ⟨_, fun _ => rfl, fun s => ?_⟩
    split
    · split
      · exact setSingle_effect
      · exact setAlternate_effect (by omega) (by omega)
      · exact .unchanged
    · exact .unchanged
  case propose =>
    refine ⟨_, fun _ => rfl, fun s => ?_⟩
    split
    · exact proposeLength_effect _ _
    · exact .unchanged
  case vote =>
    refine ⟨_, fun _ => rfl, fun s => ?_⟩
    split
    · split
      · exact castVote_effect _
      · exact .unchanged
    · exact .unchanged
  case proposalWithdraw =>
    exact ⟨_, fun _ => rfl, fun s => State.onNothing_effect withdrawProposal_effect⟩
  case badRequest =>
    split at asks
    · cases asks
    · rename_i unknown
      cases asks
      exact ⟨fun s => s.refuse .badRequest, fun s => if_neg unknown, fun s => .unchanged⟩

/-! ### The events of the part -/

/-- What one command can make of the state it is run on: nothing, an answered request, a tick, a
completion, a moment of a transaction, or an edge of a reset pin. -/
inductive Event (s : State) : State → Prop where
  | idle : Event s s
  | request (h : HostId) (q : Request) (o : ReplyCode) (r : Result) (u : State)
      (next : s.nextRequest = some (h, q)) (effect : OwnerEffect h (s.popRequest h) u) :
      Event s (u.placeReply h q.seq q.code o r)
  | arrival (i : ArrivalIn) (next : s.atArrival = true) : Event s (s.plainTick i)
  | boundary (b : BoundaryIn) (next : s.atBoundary = true) : Event s (s.boundaryTick b)
  | completion (j : Job) (js : List Job) (first : s.jobs = j :: js) : Event s (s.completeJob j)
  | transaction (h : HostId) (part : TxnPart) (bytes : List Byte) (first : Bool) :
      Event s (s.transaction h part bytes first)
  | prstFall (h : HostId) (link : Link) (first : Bool) (idle : takenUp link = false) :
      Event s ((s.setPort h { s.port h with held := true, link := link }).portReset h first)
  | prstFallOff (h : HostId) (link : Link) (idle : takenUp link = false) :
      Event s (s.setPort h { s.port h with held := true, link := link })
  | prstRise (h : HostId) (held : (s.port h).held = true) :
      Event s (s.setPort h { (s.port h).cleared with held := false })
  | powerOn (sent : Vector Nat 4) :
      Event s
        { State.reset with
          rstN := false, rbk := s.rbk
          ports := Vector.ofFn fun h => (s.port h).poweredOn (sent.get h)
          draws := s.draws, pending := s.pending }
  | release : Event s (s.setRstN true)

/-- An abandoned transaction is not acted on. -/
theorem takenUp_abandon (x : Link) (sent : Nat) : takenUp (x.abandon sent) = false := by
  cases x <;> rfl

theorem event_ite {s t : State} {p : Prop} [Decidable p] (event : p → Event s t) :
    Event s (if p then t else s) := by
  split
  · exact event ‹_›
  · exact .idle

theorem State.tick_event (s : State) (b : BoundaryIn) : Event s (s.tick b) := by
  unfold State.tick
  split
  · exact .arrival _ ‹_›
  · exact event_ite (.boundary b)

theorem State.take_event {s : State} {h : HostId} {q : Request} {act : State → Answer}
    (effect : ∀ s, OwnerEffect h s (act s).state) :
    Event s (s.take h q.seq q.code q.payload act) :=
  event_ite fun next => .request h q _ _ _ next (effect _)

/-- Every command answers a next state, which an event of the part leaves. -/
theorem exec_event (c : Instr) (s : State) : ∃ t, exec c s = .next t ∧ Event s t := by
  cases asks : requestOf c with
  | some hq =>
    obtain ⟨act, run, effect⟩ := exec_request asks
    exact ⟨_, run s, State.take_event effect⟩
  | none =>
    cases c <;> simp only [requestOf, reduceCtorEq] at asks
    case badRequest => exact ⟨s, if_pos (by simpa using asks), .idle⟩
    all_goals refine ⟨_, rfl, ?_⟩
    case arrival => exact event_ite (.arrival _)
    case frameBoundary => exact event_ite (.boundary _)
    case pulseEnd => exact event_ite fun _ => State.tick_event _ _
    case readbackCheck => exact event_ite fun _ => State.tick_event _ _
    case offerExpiry => exact event_ite fun at' => .boundary _ (Bool.and_eq_true_iff.1 at').1
    case loadIdleTimeout => exact event_ite fun at' => .boundary _ (Bool.and_eq_true_iff.1 at').1
    case alternationTurn =>
      exact event_ite fun at' =>
        .boundary _ (Bool.and_eq_true_iff.1 (Bool.and_eq_true_iff.1 at').1).1
    case proposalExpiry => exact event_ite fun at' => .boundary _ (Bool.and_eq_true_iff.1 at').1
    case compileCompletion =>
      split
      · exact .completion _ _ ‹_›
      · exact .idle
    case requestFrame => exact .transaction _ _ _ _
    case nullFrame => exact .transaction _ _ _ _
    case ack => exact .transaction _ _ _ _
    case shortTransaction => exact .transaction _ _ _ _
    case portReset => exact .transaction _ _ _ _
    case prstNLow h sent first =>
      split
      · exact .idle
      · dsimp only
        split
        · exact .prstFall h _ first (takenUp_abandon _ sent)
        · exact .prstFallOff h _ (takenUp_abandon _ sent)
    case prstNRise => exact event_ite (.prstRise _)
    case powerOnReset => exact .powerOn _
    case rstNRelease => exact .release

/-- What every event keeps, every step keeps, where it does not speak of the waiting commands. -/
theorem step_keeps {P : State → Prop} (events : ∀ s t, Event s t → P s → P t)
    (queue : ∀ s cs, P s → P (s.setPending cs)) {s t : State} (law : P s) (run : step s = .next t) :
    P t := by
  unfold step at run
  split at run
  · cases run
    exact law
  · rename_i c rest _
    obtain ⟨u, next, event⟩ := exec_event c (s.setPending rest)
    rw [next] at run
    cases run
    exact events _ _ event (queue s rest law)

end Sys2Proof.Machine
end

section
/-!
PROOFS. Which operations touch a port by posting notices alone: one lemma per operation that the
requests, the ticks and the resets are made of (R169, R175).
-/

namespace Sys2Proof.Machine

open Sys2Proof.Safety

/-- Port `q` is port `p` with notices posted to it. -/
def Port.Noticed : Port → Port → Prop :=
  Relation.ReflTransGen fun p q => ∃ n, q = p.enqueue n

/-- Every port of `t` is that of `s` with notices posted to it. -/
structure State.Noticed (s t : State) : Prop where
  port : ∀ h : HostId, (s.port h).Noticed (t.port h)

/-- What an enqueued notice keeps, notices keep. -/
theorem Port.Noticed.keeps {P : Port → Prop} (step : ∀ p n, P p → P (p.enqueue n)) {p q : Port}
    (told : p.Noticed q) (law : P p) : P q := by
  induction told with
  | refl => exact law
  | tail _ post ih =>
    obtain ⟨n, rfl⟩ := post
    exact step _ n ih

theorem Port.Noticed.same {p q : Port} (told : p.Noticed q) : samePortButNotices p q :=
  told.keeps (P := samePortButNotices p)
    (fun r n h => samePortButNotices_trans h (r.enqueue_same n)) ⟨rfl, rfl, rfl, rfl, rfl⟩

namespace State

variable {s t u : State}

theorem Noticed.refl (s : State) : s.Noticed s := ⟨fun _ => .refl⟩

theorem Noticed.trans (first : s.Noticed t) (second : t.Noticed u) : s.Noticed u :=
  ⟨fun h => (first.port h).trans (second.port h)⟩

theorem Noticed.of_ports (same : t.ports = s.ports) : s.Noticed t :=
  ⟨fun h => by rw [(State.ports_eq_iff t s).1 same h]; exact .refl⟩

theorem noticed_post (s : State) (h : HostId) (b : NoticeBody) : s.Noticed (s.post h b) := by
  refine ⟨fun g => ?_⟩
  by_cases other : g = h
  · subst other
    rw [State.port_post_self]
    split
    · exact .refl
    · exact .single ⟨_, rfl⟩
  · rw [State.port_post_ne _ _ other]
    exact .refl

theorem noticed_postAll (s : State) (ps : Posts) : s.Noticed (s.postAll ps) := by
  induction ps generalizing s with
  | nil => exact .refl s
  | cons p ps ih => exact (s.noticed_post p.1 p.2).trans (ih _)

theorem Noticed.post (told : s.Noticed t) (h : HostId) (b : NoticeBody) : s.Noticed (t.post h b) :=
  told.trans (t.noticed_post h b)

theorem Noticed.postAll (told : s.Noticed t) (ps : Posts) : s.Noticed (t.postAll ps) :=
  told.trans (t.noticed_postAll ps)

/-- A fold of operations that post alone posts alone. -/
theorem noticed_foldl {β : Type} {f : State → β → State}
    (step : ∀ (s : State) b, s.Noticed (f s b))
    (bs : List β) (s : State) : s.Noticed (bs.foldl f s) :=
  foldl_keeps f s.Noticed (fun _ _ told => told.trans (step _ _)) bs s (.refl s)

theorem noticed_reactLane (s : State) (l : LaneId) (f : Lane → Lane × Posts) :
    s.Noticed (s.reactLane l f) :=
  .postAll (.of_ports (by rfl)) _

theorem noticed_demote (s : State) (h : HostId) (b : BookId) : s.Noticed (s.demote h b) :=
  .post (.of_ports (by simp)) h _

theorem noticed_demoteWhere (s : State) (p : HostId → BookId → Book → Bool) :
    s.Noticed (s.demoteWhere p) :=
  noticed_foldl (fun t x => by split; exacts [noticed_demote _ _ _, .refl _]) _ s

theorem Noticed.demoteWhere (told : s.Noticed t) (p : HostId → BookId → Book → Bool) :
    s.Noticed (t.demoteWhere p) := told.trans (t.noticed_demoteWhere p)

theorem noticed_agree (s : State) (p : Proposal) : s.Noticed (s.agree p) :=
  .demoteWhere (t := s.recordAgreed p) (.of_ports (by rfl)) _

theorem ports_clearProposal (s : State) : s.clearProposal.ports = s.ports := by
  unfold State.clearProposal
  split
  · dsimp only
    split <;> rfl
  · rfl

theorem noticed_endProposal (s : State) (p : Proposal) (o : ProposalOutcome) :
    s.Noticed (s.endProposal p o) :=
  .postAll (.of_ports s.ports_clearProposal) _

theorem noticed_agreementReset (s : State) (h : HostId) : s.Noticed (s.agreementReset h) := by
  unfold State.agreementReset
  split
  · exact .refl s
  · split
    · exact .postAll (.of_ports s.ports_clearProposal) _
    · split
      · dsimp only
        split
        · exact noticed_agree _ _
        · exact .of_ports (by rfl)
      · exact .refl s

theorem noticed_lanesReset (s : State) (h : HostId) : s.Noticed (s.lanesReset h) :=
  noticed_foldl (fun _ _ => noticed_reactLane _ _ _) _ s

theorem noticed_resetBlocks (s : State) (h : HostId) (first : Bool) :
    s.Noticed (s.resetBlocks h first) := by
  unfold State.resetBlocks
  have plain : s.Noticed ((s.setHost h .initial).dropJob h) := .of_ports (by rfl)
  dsimp only
  split
  · exact plain.trans ((noticed_agreementReset _ h).trans (noticed_lanesReset _ h))
  · exact plain.trans ((noticed_lanesReset _ h).trans (noticed_agreementReset _ h))

/-! ### Requests and completions -/

theorem noticed_completeJob (s : State) (j : Job) : s.Noticed (s.completeJob j) :=
  .post (.of_ports (by rfl)) _ _

/-- The owner of a request touches the ports by posting notices alone. -/
theorem noticed_ownerEffect {h : HostId} (effect : OwnerEffect h s t) : s.Noticed t := by
  cases effect with
  | unchanged => exact .refl s
  | granted => exact .of_ports (by rw [State.grant_eq]; rfl)
  | lane l x ps => exact .postAll (.of_ports (by rfl)) ps
  | host => exact .of_ports (by rfl)
  | compile => exact .of_ports (by rfl)
  | abort => exact .of_ports (by rfl)
  | propose f w noRecord range window voters ps =>
    exact .postAll (.of_ports (by rfl)) ps
  | proposeAgreed => exact noticed_agree _ _
  | vote => exact .of_ports (by rfl)
  | voteAgreed => exact noticed_agree _ _
  | ended => exact noticed_endProposal _ _ _

/-! ### Ticks -/

theorem noticed_loadBoundary (s : State) (h : HostId) : s.Noticed (s.loadBoundary h) := by
  unfold State.loadBoundary
  split
  · exact .refl s
  · split
    · exact .of_ports (by rfl)
    · exact .post (.of_ports (by rfl)) _ _

theorem noticed_carrySwap (s : State) (h : HostId) (b : BookId) : s.Noticed (s.carrySwap h b) := by
  unfold State.carrySwap
  dsimp only
  exact .post (.of_ports (by split <;> rfl)) _ _

theorem noticed_takeTurn (s : State) (h : HostId) (a : BookId) : s.Noticed (s.takeTurn h a) := by
  unfold State.takeTurn
  dsimp only
  split <;> exact .post (.of_ports (by rfl)) _ _

theorem noticed_runBoundary (s : State) (h : HostId) : s.Noticed (s.runBoundary h) := by
  unfold State.runBoundary
  dsimp only
  split
  · exact noticed_carrySwap _ _ _
  · exact .post (.of_ports (by rfl)) _ _
  · split
    · exact noticed_takeTurn _ _ _
    · exact .of_ports (by rfl)
  · exact .refl s

theorem noticed_proposalBoundary (s : State) : s.Noticed s.proposalBoundary.1 := by
  unfold State.proposalBoundary
  split
  · exact .refl s
  · split
    · exact .postAll (.of_ports (by rfl)) _
    · dsimp only
      split
      · exact .of_ports (by rfl)
      · split
        · exact Noticed.trans (.of_ports (by rfl)) (noticed_endProposal (s.setProposal _) _ _)
        · exact .of_ports (by rfl)

theorem noticed_agreementBoundary (s : State) (left : List (HostId × BookId)) :
    s.Noticed (s.agreementBoundary left) := by
  unfold State.agreementBoundary
  exact (noticed_proposalBoundary s).demoteWhere _

theorem noticed_react (c : Crossing) (r : BoundaryReaction) :
    c.state.Noticed (c.react r).state := by
  cases r with
  | lane l => exact noticed_reactLane _ _ _
  | check l => exact noticed_reactLane _ _ _
  | load h => exact noticed_loadBoundary _ _
  | run h =>
    have ran := noticed_runBoundary c.state h
    simp only [Crossing.react, Crossing.run]
    split
    · exact ran
    · split
      · dsimp only
        split
        · exact ran.trans (noticed_demote _ _ _)
        · exact ran
      · exact ran
  | agreement => exact noticed_agreementBoundary _ _

theorem noticed_crossBoundary (s : State) (b : BoundaryIn) : s.Noticed (s.crossBoundary b) := by
  obtain ⟨c, told, result⟩ := s.crossBoundary_keeps b (fun c => s.Noticed c.state)
    (fun c r told => told.trans (noticed_react c r)) (.of_ports (by rfl))
  rwa [result]

theorem noticed_reactArrival (due : List LaneId) (s : State) (r : ArrivalReaction) :
    s.Noticed (s.reactArrival due r) := by
  cases r with
  | check l =>
    simp only [State.reactArrival]
    split
    · exact noticed_reactLane _ _ _
    · exact .refl s
  | drive l => exact .of_ports (by rfl)
  | notes h => exact noticed_postAll _ _

theorem noticed_arrive (s : State) (i : ArrivalIn) : s.Noticed (s.arrive i) :=
  .trans (t := (s.setRbk i.rbk).mapLanes Lane.takeDue) (.of_ports (by rfl))
    (noticed_foldl (noticed_reactArrival s.dueChecks) _ _)

theorem noticed_plainTick (s : State) (i : ArrivalIn) : s.Noticed (s.plainTick i) :=
  .trans (.of_ports (by rfl)) (noticed_arrive ((s.setTimebase _).mapLanes _) i)

theorem ports_enterFrame (s : State) : s.enterFrame.ports = s.ports := by
  simp [State.enterFrame, State.frameEnd, State.mapLanes]

theorem noticed_boundaryTick (s : State) (b : BoundaryIn) : s.Noticed (s.boundaryTick b) :=
  .trans (t := s.enterFrame.crossBoundary b)
    (.trans (.of_ports s.ports_enterFrame) (noticed_crossBoundary _ b)) (noticed_arrive _ _)

end State

end Sys2Proof.Machine
end

section
/-!
PROOFS. The laws of the ports: what one port keeps, that every operation on a port keeps it, and the
settlement of O55 (R163, R164, R167, R171, 11.3).
-/

namespace Sys2Proof.Machine

open Sys2Proof.Safety

/-! ### What one port keeps -/

/-- The message that `n` names waits in the port. -/
abbrev Port.Waits (p : Port) (n : Named) : Prop := namedWaits p n = true

/-- The laws of the ports for one port. -/
structure Port.Lawful (p : Port) : Prop where
  credits : p.creditsUsed ≤ 3
  ordinary : (p.notices.filter fun n => !n.isOverflow).length ≤ 15
  youngest : ∀ n ∈ p.notices.dropLast, n.isOverflow = false
  ack : p.Waits p.ack
  offer : p.Waits (offeredBy p.link)
  held : p.held = true → takenUp p.link = false

theorem portsKept_iff (s : State) : portsKept s ↔ ∀ h : HostId, (s.port h).Lawful := by
  constructor
  · rintro ⟨credits, notices, waits, idle⟩ h
    exact ⟨credits h, (notices h).1, (notices h).2, (waits h).1, (waits h).2, idle h⟩
  · exact fun law => ⟨fun h => (law h).credits, fun h => ⟨(law h).ordinary, (law h).youngest⟩,
      fun h => ⟨(law h).ack, (law h).offer⟩, fun h => (law h).held⟩

@[simp] theorem Port.waits_nothing (p : Port) : p.Waits .nothing := rfl

theorem Port.waits_notice_iff (p : Port) : p.Waits .notice ↔ p.notices ≠ [] := by
  simp [Port.Waits, namedWaits]

theorem Port.waits_reply_iff (p : Port) : p.Waits .reply ↔ p.replies ≠ [] := by
  simp [Port.Waits, namedWaits]

/-- A message that waits still waits where both queues have lost none of their waiting heads. -/
theorem Port.Waits.mono {p q : Port} {n : Named} (waits : p.Waits n)
    (replies : p.replies ≠ [] → q.replies ≠ []) (notices : p.notices ≠ [] → q.notices ≠ []) :
    q.Waits n := by
  cases n with
  | nothing => rfl
  | reply => exact q.waits_reply_iff.2 (replies (p.waits_reply_iff.1 waits))
  | notice => exact q.waits_notice_iff.2 (notices (p.waits_notice_iff.1 waits))

/-! ### Notices -/

theorem Port.enqueue_ack (p : Port) (n : Notice) :
    (p.enqueue n).ack = p.ack ∨ (p.enqueue n).ack = .nothing := by
  rcases p.enqueue_cases n with ⟨_, e⟩ | ⟨y, _, ⟨_, _, e⟩ | ⟨_, _, e⟩ | ⟨_, _, _, e⟩ | ⟨_, _, _, e⟩⟩ <;>
    rw [e]
  · exact .inl rfl
  · split
    · simp only [Port.forgetNotice]
      split
      · exact .inr rfl
      · exact .inl rfl
    · exact .inl rfl
  all_goals exact .inl rfl

theorem Port.forgetNotice_offers (p : Port) :
    (offeredBy p.forgetNotice.link = offeredBy p.link ∨
        offeredBy p.forgetNotice.link = .nothing) ∧
      takenUp p.forgetNotice.link = takenUp p.link := by
  unfold Port.forgetNotice
  dsimp only
  split
  · exact ⟨.inr rfl, by simp [takenUp, *]⟩
  · exact ⟨.inl rfl, rfl⟩

theorem Port.enqueue_link (p : Port) (n : Notice) :
    (offeredBy (p.enqueue n).link = offeredBy p.link ∨
        offeredBy (p.enqueue n).link = .nothing) ∧
      takenUp (p.enqueue n).link = takenUp p.link := by
  rcases p.enqueue_cases n with ⟨_, e⟩ | ⟨y, _, ⟨_, _, e⟩ | ⟨_, _, e⟩ | ⟨_, _, _, e⟩ | ⟨_, _, _, e⟩⟩ <;>
    rw [e]
  · exact ⟨.inl rfl, rfl⟩
  · split
    · exact p.forgetNotice_offers
    · exact ⟨.inl rfl, rfl⟩
  all_goals exact ⟨.inl rfl, rfl⟩

theorem Notice.isOverflow_countDiscarded (n : Notice) :
    n.countDiscarded.isOverflow = n.isOverflow := by
  unfold Notice.countDiscarded
  split
  · simp [Notice.isOverflow, *]
  · rfl

/-- The notice queue keeps its law at every post (11.3, R177). -/
theorem Port.enqueue_queue {p : Port} (n : Notice)
    (ordinary : (p.notices.filter fun n => !n.isOverflow).length ≤ 15)
    (youngest : ∀ n ∈ p.notices.dropLast, n.isOverflow = false) :
    ((p.enqueue n).notices.filter fun n => !n.isOverflow).length ≤ 15 ∧
      ∀ m ∈ (p.enqueue n).notices.dropLast, m.isOverflow = false := by
  rcases p.enqueue_cases n with ⟨_, e⟩ |
      ⟨y, last, ⟨plain, _, e⟩ | ⟨_, _, e⟩ | ⟨_, none, _, e⟩ | ⟨_, none, room, e⟩⟩ <;> rw [e]
  · refine ⟨(List.length_filter_le _ _).trans (by simp), by simp⟩
  · refine ⟨?_, by simpa using youngest⟩
    rw [← List.dropLast_append_getLast? y last] at ordinary
    simp only [List.filter_append, List.length_append] at ordinary ⊢
    have one := List.length_filter_le (fun n : Notice => !n.isOverflow) [y.merged n]
    simp [plain] at ordinary one ⊢
    omega
  · constructor
    · simpa [List.filter_map, Function.comp_def, Notice.isOverflow_countDiscarded] using ordinary
    · intro m mem
      rw [← List.map_dropLast] at mem
      obtain ⟨m', old, rfl⟩ := List.mem_map.1 mem
      rw [Notice.isOverflow_countDiscarded]
      exact youngest m' old
  · refine ⟨?_, by simpa using none⟩
    simpa [List.filter_append, Notice.overflowFor, Notice.isOverflow] using ordinary
  · refine ⟨(List.length_filter_le _ _).trans ?_, by simpa using none⟩
    simp only [maxOrdinaryNotices] at room
    simp
    omega

theorem Port.Lawful.enqueue {p : Port} (law : p.Lawful) (n : Notice) : (p.enqueue n).Lawful := by
  obtain ⟨ordinary, youngest⟩ := p.enqueue_queue n law.ordinary law.youngest
  have waits {m : Named} (named : p.Waits m) : (p.enqueue n).Waits m :=
    named.mono (by simp) fun _ => p.enqueue_notices_ne_nil n
  refine ⟨by simpa [Port.creditsUsed] using law.credits, ordinary, youngest, ?_, ?_, fun held => ?_⟩
  · rcases p.enqueue_ack n with e | e <;> rw [e]
    · exact waits law.ack
    · rfl
  · rcases (p.enqueue_link n).1 with e | e <;> rw [e]
    · exact waits law.offer
    · rfl
  · rw [(p.enqueue_link n).2]
    exact law.held (by simpa using held)

theorem Port.Noticed.lawful {p q : Port} (told : p.Noticed q) (law : p.Lawful) : q.Lawful :=
  told.keeps (fun _ n law => law.enqueue n) law

/-! ### Moments of a transaction -/

theorem Port.Lawful.select {p : Port} (law : p.Lawful) (rstN : Bool) : (p.select rstN).Lawful := by
  unfold Port.select
  split
  · split
    · rename_i taken
      exact { law with offer := rfl, held := fun held => by simp_all }
    · exact { law with offer := rfl, held := fun _ => rfl }
  · exact law

theorem Port.head_waits (p : Port) : p.Waits p.head.1 := by
  unfold Port.head
  split <;> simp_all [Port.Waits, namedWaits]

theorem Port.Lawful.acknowledge {p : Port} (law : p.Lawful) (byte1 : offeredBy p.link = .nothing) :
    p.acknowledge.Lawful := by
  unfold Port.acknowledge
  have credits := law.credits
  split
  · exact law
  · exact { law with
      credits := by simp only [Port.creditsUsed, List.length_tail] at credits ⊢; omega
      ack := rfl, offer := by rw [byte1]; rfl }
  · have shorter : p.notices.tail.Sublist p.notices := List.tail_sublist _
    exact { law with
      ordinary := (shorter.filter _).length_le.trans law.ordinary
      youngest := fun n mem => law.youngest n (by
        exact List.mem_of_mem_tail (List.tail_dropLast ▸ mem))
      ack := rfl, offer := by rw [byte1]; rfl }

theorem Port.acknowledge_kept (p : Port) :
    p.acknowledge.held = p.held ∧ p.acknowledge.link = p.link := by
  unfold Port.acknowledge
  split <;> exact ⟨rfl, rfl⟩

theorem Port.Lawful.control {p : Port} (law : p.Lawful) (b0 b1 : Byte) :
    (p.control b0 b1).Lawful := by
  unfold Port.control
  split
  · rename_i r0 r1 selected
    have byte1 : offeredBy p.link = .nothing := by rw [selected]; rfl
    have free : p.held ≠ true := fun held => by
      have idle := law.held held
      rw [selected] at idle
      cases idle
    dsimp only
    split
    · have acked := law.acknowledge byte1
      exact { acked with
        offer := Port.head_waits p.acknowledge
        held := fun held => absurd (p.acknowledge_kept.1 ▸ held) free }
    · exact { law with offer := Port.head_waits p, held := fun held => absurd held free }
  · exact law

theorem Port.Lawful.catchUp {p : Port} (law : p.Lawful) (rstN : Bool) (bytes : List Byte) :
    (p.catchUp rstN bytes).Lawful := by
  unfold Port.catchUp
  split
  · exact (law.select rstN).control _ _
  · exact law.select rstN

theorem Port.Lawful.cleared {p : Port} (law : p.Lawful) (link : offeredBy p.link = .nothing) :
    p.cleared.Lawful :=
  ⟨by simp [Port.cleared, Port.creditsUsed], by simp [Port.cleared], by simp [Port.cleared], rfl,
    by rw [show p.cleared.link = p.link from rfl, link]; rfl, law.held⟩

theorem Port.Lawful.endShort {p : Port} (law : p.Lawful) (bytes : List Byte) :
    (p.endShort bytes).Lawful := by
  unfold Port.endShort
  split
  · exact { law with offer := rfl, held := fun _ => rfl }
  · exact { law with ack := rfl, offer := rfl, held := fun _ => rfl }
  · exact law

theorem Port.Lawful.endComplete {p : Port} (law : p.Lawful) {k : FrameKind} {f : List Byte}
    {n : Named} (offering : p.link = .offering k f n) (bytes : List Byte) :
    (p.endComplete f n bytes).Lawful := by
  have offer := law.offer
  rw [offering] at offer
  exact { law with ack := offer, offer := rfl, held := fun _ => rfl }

theorem Port.Lawful.receive {p : Port} (law : p.Lawful) (bytes : List Byte) :
    (p.receive bytes).Lawful := by
  have credits := law.credits
  refine { law with credits := ?_ }
  simp only [Port.receive, Port.creditsUsed]
  split
  · rename_i accepted
    unfold Port.admissionOf at accepted
    split at accepted <;> try cases accepted
    split at accepted <;> try cases accepted
    split at accepted <;> try cases accepted
    rename_i free
    simp only [portCredits, Port.creditsUsed] at free
    simp
    omega
  · exact credits

/-! ### Events -/

/-- A write of one lawful port keeps the laws. -/
theorem portsKept_setPort {s : State} (laws : ∀ g : HostId, (s.port g).Lawful) (h : HostId) {p : Port}
    (law : p.Lawful) : ∀ g : HostId, ((s.setPort h p).port g).Lawful := by
  intro g
  rw [State.port_setPort]
  split
  · exact law
  · exact laws g

theorem portsKept_portReset {s : State} (laws : ∀ g : HostId, (s.port g).Lawful) (h : HostId)
    (first : Bool) (link : offeredBy (s.port h).link = .nothing) :
    ∀ g : HostId, ((s.portReset h first).port g).Lawful := fun g =>
  ((State.noticed_resetBlocks _ h first).port g).lawful
    (portsKept_setPort laws h ((laws h).cleared link) g)

theorem portsKept_endTransaction {s : State} (laws : ∀ g : HostId, (s.port g).Lawful) (h : HostId)
    (bytes : List Byte) (first : Bool) :
    ∀ g : HostId, ((s.endTransaction h bytes first).port g).Lawful := by
  unfold State.endTransaction
  dsimp only
  split
  · exact laws
  · exact portsKept_setPort laws h { laws h with offer := rfl, held := fun _ => rfl }
  · exact portsKept_setPort laws h ((laws h).endShort bytes)
  · rename_i kind frame offered offering
    have ended := (laws h).endComplete offering bytes
    split
    · exact portsKept_setPort laws h ((laws h).endShort bytes)
    · cases kind with
      | null => exact portsKept_setPort laws h { ended with }
      | request => exact portsKept_setPort laws h (ended.receive bytes)
      | portReset =>
        refine portsKept_portReset (portsKept_setPort laws h ended) h first ?_
        rw [State.port_setPort_self]
        rfl

theorem portsKept_transaction {s : State} (laws : ∀ g : HostId, (s.port g).Lawful) (h : HostId)
    (part : TxnPart) (bytes : List Byte) (first : Bool) :
    ∀ g : HostId, ((s.transaction h part bytes first).port g).Lawful := by
  cases part with
  | select => exact portsKept_setPort laws h ((laws h).select _)
  | control => exact portsKept_setPort laws h ((laws h).catchUp _ _)
  | finish =>
    exact portsKept_endTransaction (portsKept_setPort laws h ((laws h).catchUp _ _)) h bytes first

/-- The engine's taking of a request frees the credit that its reply then uses (R167 to R169). -/
theorem portsKept_request {s u : State} (laws : ∀ g : HostId, (s.port g).Lawful) {h : HostId}
    {q : Request} (next : s.nextRequest = some (h, q)) (effect : OwnerEffect h (s.popRequest h) u)
    (o : ReplyCode) (r : Result) :
    ∀ g : HostId, ((u.placeReply h q.seq q.code o r).port g).Lawful := by
  obtain ⟨_, _, waiting⟩ := State.nextRequest_some next
  have told := State.noticed_ownerEffect effect
  have popped : ((s.popRequest h).port h).Lawful ∧
      ((s.popRequest h).port h).creditsUsed < 3 := by
    have law := laws h
    have credits := law.credits
    obtain ⟨rest, queue⟩ := List.head?_eq_some_iff.1 waiting
    rw [State.port_popRequest, if_pos rfl]
    simp only [Port.creditsUsed, queue, List.length_cons, List.tail_cons] at credits ⊢
    exact ⟨{ law with credits := by simp only [Port.creditsUsed]; omega }, by omega⟩
  intro g
  rw [State.port_placeReply]
  split
  · have law := (told.port h).lawful popped.1
    have same := (told.port h).same
    have room := popped.2
    simp only [Port.creditsUsed, ← same.1, ← same.2.1] at room
    have waits {m : Named} (named : (u.port h).Waits m) :
        Port.Waits { u.port h with
          replies := (u.port h).replies ++ [⟨q.seq, q.code, o, r, u.draws⟩] } m :=
      named.mono (by simp) id
    exact { law with
      credits := by simp [Port.creditsUsed]; omega
      ack := waits law.ack, offer := waits law.offer }
  · rename_i other
    refine (told.port g).lawful ?_
    rw [State.port_popRequest, if_neg other]
    exact laws g

/-- A port that is abandoned keeps the laws, held in reset or not. -/
theorem Port.Lawful.abandoned {p : Port} (law : p.Lawful) {x : Link} (idle : takenUp x = false)
    (held : Bool) : ({ p with held := held, link := x } : Port).Lawful :=
  { law with
    offer := by cases x <;> first | rfl | cases idle
    held := fun _ => idle }

theorem offeredBy_of_not_takenUp {x : Link} (idle : takenUp x = false) : offeredBy x = .nothing := by
  cases x <;> first | rfl | cases idle

theorem Port.poweredOn_lawful (p : Port) (sent : Nat) : (p.poweredOn sent).Lawful :=
  (⟨by decide, by decide, by decide, rfl, rfl, fun _ => rfl⟩ : Port.powerOn.Lawful).abandoned
    (takenUp_abandon p.link sent) p.held

theorem portsKept_event {s t : State} (event : Event s t) (laws : ∀ g : HostId, (s.port g).Lawful) :
    ∀ g : HostId, (t.port g).Lawful := by
  cases event with
  | idle => exact laws
  | request h q o r u next effect => exact portsKept_request laws next effect o r
  | arrival i => exact fun g => ((State.noticed_plainTick s i).port g).lawful (laws g)
  | boundary b => exact fun g => ((State.noticed_boundaryTick s b).port g).lawful (laws g)
  | completion j => exact fun g => ((State.noticed_completeJob s j).port g).lawful (laws g)
  | transaction h part bytes first => exact portsKept_transaction laws h part bytes first
  | prstFall h link first idle =>
    refine portsKept_portReset (portsKept_setPort laws h ((laws h).abandoned idle true)) h first ?_
    rw [State.port_setPort_self]
    exact offeredBy_of_not_takenUp idle
  | prstFallOff h link idle => exact portsKept_setPort laws h ((laws h).abandoned idle true)
  | prstRise h held =>
    have idle := (laws h).held held
    exact portsKept_setPort laws h
      (((laws h).cleared (offeredBy_of_not_takenUp idle)).abandoned idle false)
  | powerOn sent =>
    intro g
    simpa [State.port] using Port.poweredOn_lawful (s.port g) (sent.get g)
  | release => exact laws

/-- Settles O55: every event keeps the laws of each port. -/
theorem stepKeepsPorts : Obligations.StepKeepsPorts := by
  intro s t law run
  exact (portsKept_iff t).2 (step_keeps (P := fun s => ∀ g : HostId, (s.port g).Lawful)
    (fun _ _ => portsKept_event) (fun _ _ => id) ((portsKept_iff s).1 law) run)

end Sys2Proof.Machine
end

section
/-!
PROOFS. The queue of commands and the request engine: the settlement of O1, O2, O3 and O4 (R168, R169,
R174, notes/assumptions/1.md to 3.md).
-/

namespace Sys2Proof.Machine

open Sys2Proof.Safety

/-! ### The queue -/

/-- Settles O1: both halves are the definition of a step, on a queue that is not empty and on one that
is. -/
theorem stepRunsFront : Obligations.StepRunsFront :=
  ⟨fun c rest s queue => by simp only [step, queue]; rfl, fun s empty => by simp only [step, empty]⟩

/-! ### The round robin -/

theorem mem_portsAfter (last h : HostId) : h ∈ portsAfter last := by
  revert last h
  decide

/-- The engine considers the ports in the order of their turns. -/
theorem portsAfter_ascending (last : HostId) :
    (portsAfter last).Pairwise fun g h => turnsBefore last g < turnsBefore last h := by
  revert last
  decide

/-- After another port has been served, a port whose turn had not come is nearer to it. -/
theorem turnsBefore_lt (last h g : HostId) (other : g ≠ h)
    (later : turnsBefore last h ≤ turnsBefore last g) : turnsBefore h g < turnsBefore last g := by
  revert last h g
  decide

/-- What the engine finds at one port. -/
def State.oldestOf (s : State) (h : HostId) : Option (HostId × Request) :=
  if (s.port h).held then none else (s.port h).inbound.head?.map fun r => (h, r)

theorem State.nextRequest_eq (s : State) :
    s.nextRequest = if s.rstN then (portsAfter s.lastServed).findSome? s.oldestOf else none := rfl

theorem State.oldestOf_eq_some {s : State} {g h : HostId} {r : Request} :
    s.oldestOf g = some (h, r) ↔ g = h ∧ waits s h = true ∧ (s.port h).inbound.head? = some r := by
  unfold State.oldestOf waits
  constructor
  · intro found
    split at found
    · cases found
    · rename_i free
      simp only [Option.map_eq_some_iff, Prod.mk.injEq] at found
      obtain ⟨x, head, rfl, rfl⟩ := found
      exact ⟨rfl, by cases queue : (s.port g).inbound <;> simp_all, head⟩
  · rintro ⟨rfl, waiting, head⟩
    simp_all

theorem State.oldestOf_eq_none {s : State} {g : HostId} :
    s.oldestOf g = none ↔ waits s g = false := by
  unfold State.oldestOf waits
  split <;> simp_all

/-- The engine's choice is the first waiting port of the round robin (R168). -/
theorem State.nextRequest_iff (s : State) (h : HostId) (r : Request) :
    s.nextRequest = some (h, r) ↔
      s.rstN = true ∧ waits s h = true ∧ (s.port h).inbound.head? = some r ∧
        ∀ g : HostId, waits s g = true → turnsBefore s.lastServed h ≤ turnsBefore s.lastServed g := by
  rw [State.nextRequest_eq]
  have ascending := portsAfter_ascending s.lastServed
  constructor
  · intro found
    split at found
    · rename_i running
      obtain ⟨before, g, after, order, here, none⟩ := List.findSome?_eq_some_iff.1 found
      obtain ⟨rfl, waiting, head⟩ := State.oldestOf_eq_some.1 here
      refine ⟨running, waiting, head, fun k waits' => ?_⟩
      have mem := mem_portsAfter s.lastServed k
      rw [order] at mem ascending
      rcases List.mem_append.1 mem with mem | mem
      · have idle := State.oldestOf_eq_none.1 (none k mem)
        rw [waits'] at idle
        cases idle
      · rcases List.mem_cons.1 mem with rfl | mem
        · exact le_rfl
        · exact le_of_lt ((List.pairwise_cons.1 (List.pairwise_append.1 ascending).2.1).1 k mem)
    · cases found
  · rintro ⟨running, waiting, head, least⟩
    obtain ⟨before, after, order⟩ := List.append_of_mem (mem_portsAfter s.lastServed h)
    rw [if_pos running, List.findSome?_eq_some_iff]
    refine ⟨before, h, after, order, State.oldestOf_eq_some.2 ⟨rfl, waiting, head⟩, fun k mem => ?_⟩
    rw [order] at ascending
    have earlier := (List.pairwise_append.1 ascending).2.2 k mem h List.mem_cons_self
    refine State.oldestOf_eq_none.2 (Bool.eq_false_iff.2 fun waits' => ?_)
    exact absurd (least k waits') (not_le.2 earlier)

/-- Settles O2: the least waiting port in the order of the turns, and any other waiting port nearer
to its turn once that one has been served. -/
theorem engineRoundRobin : Obligations.EngineRoundRobin := fun s h r =>
  ⟨s.nextRequest_iff h r, fun taken g other waiting =>
    turnsBefore_lt _ h g other (((s.nextRequest_iff h r).1 taken).2.2.2 g waiting)⟩

/-! ### The answered request -/

theorem State.clearProposal_pins (s : State) : samePins s s.clearProposal := by
  unfold State.clearProposal
  split
  · dsimp only
    split <;> exact ⟨rfl, rfl, rfl, rfl⟩
  · exact ⟨rfl, rfl, rfl, rfl⟩

theorem State.agree_pins (s : State) (p : Proposal) : samePins s (s.agree p) := by
  simp [State.agree, State.recordAgreed, samePins]

/-- The owner of a request touches no pin, no waiting command and not the port served last. -/
theorem OwnerEffect.pins {h : HostId} {s t : State} (effect : OwnerEffect h s t) : samePins s t := by
  cases effect with
  | unchanged => exact ⟨rfl, rfl, rfl, rfl⟩
  | granted => simp [State.grant_eq, samePins]
  | lane => simp [samePins]
  | host => exact ⟨rfl, rfl, rfl, rfl⟩
  | compile => exact ⟨rfl, rfl, rfl, rfl⟩
  | abort => exact ⟨rfl, rfl, rfl, rfl⟩
  | propose => simp [samePins]
  | proposeAgreed => exact s.agree_pins _
  | vote => exact ⟨rfl, rfl, rfl, rfl⟩
  | voteAgreed => exact s.agree_pins _
  | ended => simpa [State.endProposal, samePins] using s.clearProposal_pins

/-- Settles O3: the request leaves its queue, its owner touches the ports by notices alone, and the
reply is placed at the tail. -/
theorem takenRequestAnswered : Obligations.TakenRequestAnswered := by
  intro c h q s asks next
  obtain ⟨act, run, effect⟩ := exec_request asks
  have told := State.noticed_ownerEffect (effect (s.popRequest h))
  have same (g : HostId) := (told.port g).same
  simp only [State.port_popRequest] at same
  refine ⟨_, run s, ?_⟩
  rw [State.take_eq, if_pos next]
  refine ⟨(effect (s.popRequest h)).pins.2.2.1, ?_⟩
  simp only [State.port_placeReply, if_pos]
  obtain ⟨inbound, replies, _⟩ := same h
  simp only [if_pos] at inbound replies
  refine ⟨by rw [inbound, List.drop_one], by rw [replies, List.dropLast_concat],
    by simp, fun g other => ?_⟩
  obtain ⟨inbound, replies, _⟩ := same g
  simp only [if_neg other] at inbound replies ⊢
  exact ⟨inbound, replies⟩

/-! ### Events that cannot occur, and occurrences inside a tick -/

theorem State.atArrival_iff (s : State) : s.atArrival = true ↔ arrivalNext s := by
  simp [State.atArrival]

theorem State.atBoundary_iff (s : State) : s.atBoundary = true ↔ boundaryNext s := by
  simp [State.atBoundary]

theorem exec_arrival (i : ArrivalIn) (s : State) :
    exec (.arrival i) s = .next (if s.atArrival then s.plainTick i else s) := rfl

theorem exec_frameBoundary (b : BoundaryIn) (s : State) :
    exec (.frameBoundary b) s = .next (if s.atBoundary then s.boundaryTick b else s) := rfl

/-- The next tick is the arrival, where it is one, and otherwise what FRAME_BOUNDARY says. -/
theorem next_tick_eq (b : BoundaryIn) (s : State) :
    (Host.Outcome.next (s.tick b) : Host.Outcome State Fault Refusal) =
      if arrivalNext s then exec (.arrival b.start) s else exec (.frameBoundary b) s := by
  rw [exec_arrival, exec_frameBoundary]
  unfold State.tick
  by_cases next : arrivalNext s
  · rw [if_pos next, if_pos (s.atArrival_iff.2 next), if_pos (s.atArrival_iff.2 next)]
  · rw [if_neg next, if_neg (mt s.atArrival_iff.1 next)]

/-- An occurrence of a tick under a condition of its own is that tick where the condition holds. -/
theorem next_ite {s t : State} {p q : Prop} [Decidable p] [Decidable q] (same : p ↔ q) :
    (Host.Outcome.next (if p then t else s) : Host.Outcome State Fault Refusal) =
      if q then .next t else .next s := by
  simp only [same]
  split <;> rfl

/-- The same, of an occurrence at a boundary. -/
theorem next_boundary_ite {s : State} {b : BoundaryIn} {c : Bool} {q : Prop} [Decidable q]
    (same : c = true ↔ q) :
    (Host.Outcome.next (if s.atBoundary && c then s.boundaryTick b else s) :
        Host.Outcome State Fault Refusal) =
      if q then exec (.frameBoundary b) s else .next s := by
  rw [exec_frameBoundary]
  by_cases now : q
  · simp [now, same.2 now]
  · simp [now, Bool.eq_false_iff.2 (mt same.1 now)]

/-- Settles O4: each command by its own test, which is the occurrence's condition. -/
theorem occurrenceOrNothing : Obligations.OccurrenceOrNothing := by
  refine ⟨fun c h q s asks other => ?_, fun l h b s => ?_⟩
  · obtain ⟨act, run, _⟩ := exec_request asks
    rw [run, State.take_eq, if_neg other]
  · refine ⟨fun none => ?_, fun none => ?_, ?_, ?_, ?_, ?_, ?_, ?_⟩
    · rw [exec_arrival, if_neg (mt s.atArrival_iff.1 none)]
    · rw [exec_frameBoundary, if_neg (mt s.atBoundary_iff.1 none)]
    · rw [← next_tick_eq]
      exact next_ite (by simp [State.pulseEndsNext])
    · rw [← next_tick_eq]
      exact next_ite Iff.rfl
    · exact next_boundary_ite (by simp [State.offerRunsOut])
    · exact next_boundary_ite (by cases (s.host h).load <;> simp [idleLimit])
    · refine Eq.trans ?_ (next_boundary_ite (c := (s.run h).mode == .alternate && (s.run h).turn == 1)
        (by simp))
      rw [← Bool.and_assoc]
      rfl
    · exact next_boundary_ite Iff.rfl

end Sys2Proof.Machine
end

section
/-!
PROOFS. Requests that change nothing: unknown codes, payloads of the wrong length, and the requests
that read; the settlement of O5 and O6 (R31, R53, R169, R181).
-/

namespace Sys2Proof.Machine

open Sys2Proof.Safety

/-! ### Payloads of the wrong length -/

theorem State.onLane_length (s : State) {payload : List Byte} (f : LaneId → Answer)
    (wrong : payload.length ≠ 1) : s.onLane payload f = s.refuse .badArgument := by
  unfold State.onLane
  split
  · exact absurd rfl wrong
  · rfl

theorem State.onBook_length (s : State) {payload : List Byte} (f : BookId → Answer)
    (wrong : payload.length ≠ 1) : s.onBook payload f = s.refuse .badArgument := by
  unfold State.onBook
  split
  · exact absurd rfl wrong
  · rfl

theorem State.onNothing_length (s : State) {payload : List Byte} (f : Answer)
    (wrong : payload.length ≠ 0) : s.onNothing payload f = s.refuse .badArgument := by
  unfold State.onNothing
  split
  · exact absurd rfl wrong
  · rfl

theorem cueOfBytes_length {bytes : List Byte} (wrong : bytes.length ≠ 10) :
    cueOfBytes bytes = none := by
  unfold cueOfBytes
  split
  · exact absurd rfl wrong
  · rfl

theorem cueChunks_length {payload : List Byte} (wrong : payload.length ∉ [10, 20, 30, 40]) :
    cueChunks payload = none := by
  refine if_neg fun whole => wrong ?_
  simp only [cueBytes] at whole
  obtain ⟨tens, least, most⟩ := whole
  have length : payload.length = 10 * (payload.length / 10) := by omega
  simp only [List.mem_cons, List.not_mem_nil, or_false]
  omega

/-- A code that names no request has no payload length of its own. -/
theorem payloadLength_unknown {code : Byte} (unknown : code ∉ codesOfRequests) :
    payloadLength code = none := by
  refine List.lookup_eq_none_iff.2 fun p mem => bne_iff_ne.2 ?_
  rintro rfl
  refine unknown ?_
  clear unknown
  revert p
  decide

/-- What O5 states of a request of a wrong length. -/
abbrev RefusesWrongLength (c : Instr) (h : HostId) (q : Request) (s : State) : Prop :=
  (∀ n ∈ payloadLength q.code, q.payload.length ≠ n →
      refuses c s h q .badArgument (if q.code = 0x20 then .swapRefused none none else .none)) ∧
    (q.code = 0x19 → q.payload.length ∉ [10, 20, 30, 40] → refuses c s h q .badArgument .none)

section WrongLength

variable {c : Instr} {h : HostId} {seq code : Byte} {payload : List Byte} {s : State}
  {act : State → Answer}

/-- A request of one payload length, other than LOAD CUES, whose owner refuses every other length. -/
theorem refusesWrongLength_of {n : Nat} {r : Result}
    (run : exec c s = .next (s.take h seq code payload act))
    (next : s.nextRequest = some (h, ⟨seq, code, payload⟩)) (length : payloadLength code = some n)
    (result : r = if code = 0x20 then .swapRefused none none else .none) (other : code ≠ 0x19)
    (refused : payload.length ≠ n →
      act (s.popRequest h) = (s.popRequest h).refuseWith (.badArgument, r)) :
    RefusesWrongLength c h ⟨seq, code, payload⟩ s := by
  refine ⟨fun m mem wrong => ?_, fun loadCues => absurd loadCues other⟩
  obtain rfl : n = m := Option.some.inj (length.symm.trans mem)
  have answer := refuses_of_take run next (refused wrong)
  rwa [result] at answer

end WrongLength

/-- Every request command refuses a payload of a wrong length. -/
theorem refusesWrongLength {c : Instr} {h : HostId} {q : Request} {s : State}
    (asks : requestOf c = some (h, q)) (next : s.nextRequest = some (h, q)) :
    RefusesWrongLength c h q s := by
  cases c <;> simp only [requestOf, Option.some.injEq, Prod.mk.injEq, reduceCtorEq] at asks <;>
    try obtain ⟨rfl, rfl⟩ := asks
  case status =>
    exact refusesWrongLength_of rfl next rfl rfl (by decide) (State.onNothing_length _ _)
  case claim =>
    refine refusesWrongLength_of rfl next rfl rfl (by decide) fun wrong => ?_
    split
    · exact absurd rfl wrong
    · rfl
  case release =>
    exact refusesWrongLength_of rfl next rfl rfl (by decide) (State.onLane_length _ _)
  case laneSet =>
    refine refusesWrongLength_of rfl next rfl rfl (by decide) fun wrong => ?_
    split
    · exact absurd rfl wrong
    · rfl
  case laneQuery =>
    exact refusesWrongLength_of rfl next rfl rfl (by decide) (State.onLane_length _ _)
  case offer =>
    refine refusesWrongLength_of rfl next rfl rfl (by decide) fun wrong => ?_
    split
    · exact absurd rfl wrong
    · rfl
  case withdraw | decline | accept | faultClear =>
    exact refusesWrongLength_of rfl next rfl rfl (by decide) (State.onLane_length _ _)
  case cuePut =>
    refine refusesWrongLength_of rfl next rfl rfl (by decide) fun wrong => ?_
    split
    · rename_i bytes
      rw [cueOfBytes_length (bytes := bytes) (by simpa using wrong)]
      cases bookOfByte _ <;> rfl
    · rfl
  case cueDrop =>
    refine refusesWrongLength_of rfl next rfl rfl (by decide) fun wrong => ?_
    split
    · exact absurd rfl wrong
    · rfl
  case bookClear =>
    exact refusesWrongLength_of rfl next rfl rfl (by decide) (State.onBook_length _ _)
  case bookCopy =>
    refine refusesWrongLength_of rfl next rfl rfl (by decide) fun wrong => ?_
    split
    · exact absurd rfl wrong
    · rfl
  case bookRead =>
    refine refusesWrongLength_of rfl next rfl rfl (by decide) fun wrong => ?_
    split
    · exact absurd rfl wrong
    · rfl
  case loadOpen =>
    refine refusesWrongLength_of rfl next rfl rfl (by decide) fun wrong => ?_
    split
    · exact absurd rfl wrong
    · rfl
  case loadCues =>
    refine ⟨fun n mem => (by cases mem), fun _ wrong => refuses_of_take rfl next ?_⟩
    rw [cueChunks_length wrong]
    rfl
  case loadCancel =>
    exact refusesWrongLength_of rfl next rfl rfl (by decide) (State.onNothing_length _ _)
  case compile =>
    exact refusesWrongLength_of rfl next rfl rfl (by decide) (State.onBook_length _ _)
  case compileAbort =>
    exact refusesWrongLength_of rfl next rfl rfl (by decide) (State.onNothing_length _ _)
  case swap =>
    refine refusesWrongLength_of rfl next rfl rfl (by decide) fun wrong => ?_
    split
    · exact absurd rfl wrong
    · rfl
  case swapCancel | halt =>
    exact refusesWrongLength_of rfl next rfl rfl (by decide) (State.onNothing_length _ _)
  case modeSet =>
    refine refusesWrongLength_of rfl next rfl rfl (by decide) fun wrong => ?_
    split
    · exact absurd rfl wrong
    · rfl
  case propose =>
    refine refusesWrongLength_of rfl next rfl rfl (by decide) fun wrong => ?_
    split
    · exact absurd rfl wrong
    · rfl
  case vote =>
    refine refusesWrongLength_of rfl next rfl rfl (by decide) fun wrong => ?_
    split
    · exact absurd rfl wrong
    · rfl
  case proposalWithdraw =>
    exact refusesWrongLength_of rfl next rfl rfl (by decide) (State.onNothing_length _ _)
  case badRequest code _ =>
    split at asks
    · cases asks
    · rename_i named
      cases asks
      have unknown : code ∉ codesOfRequests := by simpa using named
      refine ⟨fun n mem => ?_, fun loadCues => ?_⟩
      · rw [payloadLength_unknown unknown] at mem
        cases mem
      · have loadCues : code = 0x19 := loadCues
        exact absurd (by rw [loadCues]; decide) unknown

/-- Settles O5: an unknown code is refused whatever its payload, and every request command refuses
the lengths that are not its own. -/
theorem badRequests : Obligations.BadRequests := by
  refine ⟨fun h seq code payload s unknown next => ?_, fun c h q s => refusesWrongLength⟩
  have run : exec (.badRequest h seq code payload) s =
      .next (s.take h seq code payload fun s => s.refuse .badRequest) :=
    if_neg (by simpa using unknown)
  exact refuses_of_take run next rfl

/-! ### Requests that read -/

/-- A taken request whose owner answers and changes nothing. -/
theorem answers_unchanged {c : Instr} {s : State} {h : HostId} {seq code : Byte}
    {payload : List Byte} {act : State → Answer} {o : ReplyCode} {r : Result}
    (run : exec c s = .next (s.take h seq code payload act))
    (next : s.nextRequest = some (h, ⟨seq, code, payload⟩))
    (answer : act (s.popRequest h) = ⟨o, r, s.popRequest h⟩) :
    answers c s h ⟨seq, code, payload⟩ o r nobody s :=
  answers_of_take run next answer ⟨rfl, rfl, rfl, rfl⟩ ⟨rfl, rfl, rfl, rfl, rfl⟩ rfl

/-- The common slots free, written out over the four hosts (R55). -/
theorem State.drawn_eq (s : State) :
    s.drawn = ((s.host 0).slots - 128) + ((s.host 1).slots - 128) + ((s.host 2).slots - 128) +
      ((s.host 3).slots - 128) := by
  simp [State.drawn, allHosts, List.finRange_succ, draw, reserveSlots]
  omega

theorem exec_bookRead {h : HostId} {seq x i1 i0 count : Byte} (s : State) {b : BookId}
    (book : bookOfByte x = some b) :
    exec (.bookRead h seq [x, i1, i0, count]) s =
      .next (s.take h seq 0x14 [x, i1, i0, count]
        (readBook h b (i1.toNat * 256 + i0.toNat) count.toNat)) := by
  change execBookRead h seq _ s = _
  simp only [execBookRead, book, ofBytes_pair]

theorem exec_bookRead_misread {h : HostId} {seq x i1 i0 count : Byte} (s : State)
    (misread : bookOfByte x = none) :
    exec (.bookRead h seq [x, i1, i0, count]) s =
      .next (s.take h seq 0x14 [x, i1, i0, count] fun t => t.refuse .badArgument) := by
  change execBookRead h seq _ s = _
  simp only [execBookRead, misread]

/-- Settles O6: each of the three owners answers with what stands and the state as it is, or refuses
an argument out of range. -/
theorem readingRequests : Obligations.ReadingRequests := by
  intro h seq x i1 i0 count s
  refine ⟨fun next => ?_, fun next => ⟨fun above => ?_, fun l names => ?_⟩,
    fun next => ⟨fun outside => ?_, fun b book least most => ⟨fun beyond => ?_, fun within => ?_⟩⟩⟩
  · rw [← State.drawn_eq]
    exact answers_unchanged (c := .status h seq []) rfl next rfl
  · exact refuses_of_take (c := .laneQuery h seq [x]) rfl next (State.onLane_above _ _ above)
  · exact answers_unchanged (c := .laneQuery h seq [x]) rfl next (State.onLane_named _ _ names)
  · cases book : bookOfByte x with
    | none => exact refuses_of_take (exec_bookRead_misread s book) next rfl
    | some b =>
      refine refuses_of_take (exec_bookRead s book) next (if_neg ?_)
      simp only [book, reduceCtorEq, false_or] at outside
      omega
  · exact refuses_of_take (exec_bookRead s book) next
      (if_neg fun passes => absurd passes.2.2 (not_le.2 beyond))
  · exact answers_unchanged (exec_bookRead s book) next (if_pos ⟨least, most, within⟩)

end Sys2Proof.Machine
end

section
/-!
PROOFS. LANE SET: the settings read, the spacing test as the rule states it, the rows of R27, and the
settlement of O9 (R27, R28).
-/

namespace Sys2Proof.Machine

open Sys2Proof.Safety

theorem settingsOfBytes_eq_none {flags spacing settle : Byte}
    (outside : spacing.toNat = 0 ∨ settle.toNat = 0 ∨ 15 < settle.toNat) :
    settingsOfBytes flags spacing settle = none := if_neg (by omega)

theorem settingsOfBytes_eq_some {flags spacing settle : Byte} (least : 1 ≤ spacing.toNat)
    (settles : 1 ≤ settle.toNat) (most : settle.toNat ≤ 15) :
    settingsOfBytes flags spacing settle =
      some ⟨if flags.getLsbD 0 then .activeLow else .activeHigh, spacing.toNat, flags.getLsbD 1,
        settle.toNat⟩ := if_pos ⟨least, settles, most⟩

/-- The spacing test in the words of R28. -/
theorem State.laneInUse_iff (s : State) (h : HostId) (l : LaneId) :
    s.laneInUse h l = true ↔
      ∃ b ∈ allBooks, (s.book h b).state ∈ [BookState.ready, .pending, .active] ∧
        ∃ c ∈ (s.book h b).cues, c.lane? = some l := by
  simp only [State.laneInUse, List.any_eq_true, Bool.and_eq_true, BookState.compiled_iff, Book.uses,
    beq_iff_eq]

section Stage

variable {h : HostId} {l : LaneId} {p : Settings} {s : State}

theorem stageSettings_notHolder
    (foreign : (s.lane l).state = .free ∨ (s.lane l).holder ≠ some h) :
    stageSettings h l p s = s.refuse .notHolder := by
  unfold stageSettings
  by_cases holds : (s.lane l).holder = some h
  · have free : (s.lane l).state = .free := foreign.resolve_right (· holds)
    simp [free]
  · simp [holds]

theorem stageSettings_retiring (holds : (s.lane l).holder = some h)
    (state : (s.lane l).state = .retiring) : stageSettings h l p s = s.refuse .retiring := by
  simp [stageSettings, holds, state]

theorem stageSettings_handover (holds : (s.lane l).holder = some h)
    (state : (s.lane l).state = .handover) : stageSettings h l p s = s.refuse .handover := by
  simp [stageSettings, holds, state]

/-- A HELD or OFFERED lane: the spacing test, and then the settings staged (R28, R29). -/
theorem stageSettings_kept (holds : (s.lane l).holder = some h)
    (state : (s.lane l).state = .held ∨ (s.lane l).state = .offered) :
    stageSettings h l p s =
      if (s.lane l).settings.spacing < p.spacing ∧ s.laneInUse h l = true then s.refuse .inUse
      else ⟨.done, .lane l, s.setLane l { s.lane l with pending := some p }⟩ := by
  rcases state with state | state <;> simp [stageSettings, holds, state]

end Stage

theorem exec_laneSet_misread {h : HostId} {seq x flags spacing settle : Byte} (s : State)
    (misread : laneOfByte x = none ∨ settingsOfBytes flags spacing settle = none) :
    exec (.laneSet h seq [x, flags, spacing, settle]) s =
      .next (s.take h seq 0x04 [x, flags, spacing, settle] fun t => t.refuse .badArgument) := by
  change execLaneSet h seq _ s = _
  rcases misread with noLane | noSettings
  · simp only [execLaneSet, noLane]
  · cases lane : laneOfByte x <;> simp only [execLaneSet, lane, noSettings]

theorem exec_laneSet_read {h : HostId} {seq x flags spacing settle : Byte} {l : LaneId}
    {p : Settings} (s : State) (lane : laneOfByte x = some l)
    (settings : settingsOfBytes flags spacing settle = some p) :
    exec (.laneSet h seq [x, flags, spacing, settle]) s =
      .next (s.take h seq 0x04 [x, flags, spacing, settle] (stageSettings h l p)) := by
  change execLaneSet h seq _ s = _
  simp only [execLaneSet, lane, settings]

/-- Settles O9: the arguments, then each row of R27's table with the spacing test of R28. -/
theorem laneSetRequest : Obligations.LaneSetRequest := by
  intro h seq x flags spacing settle s next
  refine ⟨fun outside => refuses_of_take (exec_laneSet_misread s ?_) next rfl,
    fun l names least settles most => ?_⟩
  · rcases outside with above | outside
    · exact .inl (laneOfByte_eq_none above)
    · exact .inr (settingsOfBytes_eq_none outside)
  have run := exec_laneSet_read (h := h) (seq := seq) s (laneOfByte_eq_some names)
    (settingsOfBytes_eq_some (flags := flags) least settles most)
  refine ⟨fun foreign => refuses_of_take run next (stageSettings_notHolder foreign), fun holds =>
    ⟨fun state => refuses_of_take run next (stageSettings_retiring holds state),
      fun state => refuses_of_take run next (stageSettings_handover holds state),
      fun state => ⟨fun wider used => ?_, fun passes => ?_⟩⟩⟩
  · have test := ((s.popRequest h).laneInUse_iff h l).2 used
    exact refuses_of_take run next
      ((stageSettings_kept (s := s.popRequest h) holds state).trans (if_pos ⟨wider, test⟩))
  · exact answers_of_take run next
      ((stageSettings_kept (s := s.popRequest h) holds state).trans (if_neg fun both =>
        passes ⟨both.1, ((s.popRequest h).laneInUse_iff h l).1 both.2⟩))
      ⟨rfl, rfl, rfl, rfl⟩ ⟨rfl, rfl, rfl, rfl, rfl⟩ rfl

end Sys2Proof.Machine
end

section
/-!
PROOFS. Cues as bytes, the book gate and the slot test: the settlement of O14 and O15 (R37, R38, R45,
R55, R56, R109).
-/

namespace Sys2Proof.Machine

open Sys2Proof.Safety

/-! ### The fields of a cue's byte 0 -/

theorem toNat_actionCode (b0 : Byte) : (b0 >>> 6).toNat = b0.toNat / 64 := by
  simp [Nat.shiftRight_eq_div_pow]

theorem toNat_laneField (b0 : Byte) : (b0 &&& 31).toNat = b0.toNat % 32 := by
  simp only [BitVec.toNat_and]
  exact Nat.and_two_pow_sub_one_eq_mod b0.toNat 5

theorem getLsbD_widthBit (b0 : Byte) : b0.getLsbD 5 = decide (b0.toNat / 32 % 2 = 1) := by
  rw [BitVec.getLsbD, Nat.testBit_eq_decide_div_mod_eq]

theorem cueLane_eq (b0 : Byte) :
    cueLane b0 =
      if b0.toNat % 32 = 31 then some none
      else if named : b0.toNat % 32 < 16 then some (some ⟨b0.toNat % 32, named⟩) else none := by
  simp only [cueLane, toNat_laneField]

/-- The action of a cue is the one its code gives, with the lane and the width that are present for
it (R37, R38). -/
theorem cueAction_eq_some_iff (b0 : Byte) (w : Nat) (a : Action) :
    cueAction b0 w = some a ↔
      (b0.toNat / 64 = 0 ∧ b0.toNat / 32 % 2 ≠ 1 ∧ ∃ l : LaneId, l.val = b0.toNat % 32 ∧ a = .rise l) ∨
      (b0.toNat / 64 = 1 ∧ b0.toNat / 32 % 2 ≠ 1 ∧ ∃ l : LaneId, l.val = b0.toNat % 32 ∧ a = .fall l) ∨
      (b0.toNat / 64 = 2 ∧ b0.toNat / 32 % 2 = 1 ∧ w ≠ 0 ∧
        ∃ l : LaneId, l.val = b0.toNat % 32 ∧ a = .pulse l w) ∨
      (b0.toNat / 64 = 3 ∧ b0.toNat / 32 % 2 ≠ 1 ∧ b0.toNat % 32 = 31 ∧ a = .note) := by
  have lanes (l : LaneId) : cueLane b0 = some (some l) ↔ l.val = b0.toNat % 32 := by
    rw [cueLane_eq]
    split
    · simp
      omega
    · split
      · simp [Fin.ext_iff, eq_comm]
      · simp
        omega
  have absent : cueLane b0 = some none ↔ b0.toNat % 32 = 31 := by
    rw [cueLane_eq]
    split
    · simp_all
    · split <;> simp_all
  have code := b0.isLt
  unfold cueAction
  rw [toNat_actionCode, getLsbD_widthBit]
  split
  case h_1 l action lane bit =>
    simp only [decide_eq_false_iff_not] at bit
    simp [action, bit, ← lanes, lane, eq_comm]
  case h_2 l action lane bit =>
    simp only [decide_eq_false_iff_not] at bit
    simp [action, bit, ← lanes, lane, eq_comm]
  case h_3 l action lane bit =>
    simp only [decide_eq_true_eq] at bit
    split
    · rename_i noWidth
      simp [action, noWidth]
    · rename_i width
      simp [action, bit, width, ← lanes, lane, eq_comm]
  case h_4 action lane bit =>
    simp only [decide_eq_false_iff_not] at bit
    simp [action, bit, ← absent, lane, eq_comm]
  case h_5 none1 none2 none3 none4 =>
    simp only [reduceCtorEq, false_iff, not_or, not_and, not_exists]
    refine ⟨fun action bit l names _ => ?_, fun action bit l names _ => ?_,
      fun action bit _ l names _ => ?_, fun action bit names _ => ?_⟩
    · exact none1 l action ((lanes l).2 names) (by simpa using bit)
    · exact none2 l action ((lanes l).2 names) (by simpa using bit)
    · exact none3 l action ((lanes l).2 names) (by simpa using bit)
    · exact none4 action (absent.2 names) (by simpa using bit)

theorem cueOfBytes_eq_some_iff {b0 b1 b2 b3 b4 b5 b6 b7 b8 b9 : Byte} {c : Cue} :
    cueOfBytes [b0, b1, b2, b3, b4, b5, b6, b7, b8, b9] = some c ↔
      cueAction b0 (b4.toNat * 256 + b5.toNat) = some c.action ∧
        (b6.toNat ≠ 0 ∧ b7.toNat < b6.toNat) ∧
        c.offset = b1.toNat * 65536 + b2.toNat * 256 + b3.toNat ∧ c.every = b6.toNat ∧
        c.phase = b7.toNat ∧ c.tag = b8 ++ b9 := by
  obtain ⟨action, offset, every, phase, tag⟩ := c
  simp only [cueOfBytes, ofBytes_pair, ofBytes_three]
  cases cueAction b0 (b4.toNat * 256 + b5.toNat) with
  | none => simp
  | some a =>
    by_cases period : b6.toNat ≠ 0 ∧ b7.toNat < b6.toNat
    · simp only [if_pos period, Option.some.injEq, Cue.mk.injEq, eq_comm]
      tauto
    · simp only [if_neg period, reduceCtorEq, false_iff]
      tauto

/-- Settles O14: a cue is read exactly where its code has its fields, and has the fields read. -/
theorem cueEntry : Obligations.CueEntry := by
  intro b0 b1 b2 b3 b4 b5 b6 b7 b8 b9
  refine ⟨?_, fun c read => ?_⟩
  · rw [Option.isSome_iff_exists]
    constructor
    · rintro ⟨c, read⟩
      obtain ⟨action, period, -⟩ := cueOfBytes_eq_some_iff.1 read
      rcases (cueAction_eq_some_iff _ _ _).1 action with
          ⟨code, bit, l, names, -⟩ | ⟨code, bit, l, names, -⟩ | ⟨code, bit, width, l, names, -⟩ |
          ⟨code, bit, names, -⟩ <;>
        exact ⟨by omega, by omega, by omega, by omega, period⟩
    · rintro ⟨absent, range, bit, width, period⟩
      have spelled (a : Action) (action : cueAction b0 (b4.toNat * 256 + b5.toNat) = some a) :
          ∃ c, cueOfBytes [b0, b1, b2, b3, b4, b5, b6, b7, b8, b9] = some c :=
        ⟨⟨a, _, _, _, _⟩, cueOfBytes_eq_some_iff.2 ⟨action, period, rfl, rfl, rfl, rfl⟩⟩
      have bound := b0.isLt
      have codes : b0.toNat / 64 = 0 ∨ b0.toNat / 64 = 1 ∨ b0.toNat / 64 = 2 ∨
          b0.toNat / 64 = 3 := by omega
      by_cases note : b0.toNat / 64 = 3
      · exact spelled .note ((cueAction_eq_some_iff _ _ _).2 (by simp; omega))
      · have lane : b0.toNat % 32 < 16 := by omega
        rcases codes with code | code | code | code
        · exact spelled (.rise ⟨_, lane⟩)
            ((cueAction_eq_some_iff _ _ _).2 (.inl ⟨code, by omega, _, rfl, rfl⟩))
        · exact spelled (.fall ⟨_, lane⟩)
            ((cueAction_eq_some_iff _ _ _).2 (.inr (.inl ⟨code, by omega, _, rfl, rfl⟩)))
        · exact spelled (.pulse ⟨_, lane⟩ _)
            ((cueAction_eq_some_iff _ _ _).2
              (.inr (.inr (.inl ⟨code, by omega, width code, _, rfl, rfl⟩))))
        · exact absurd code note
  · obtain ⟨action, period, offset, every, phase, tag⟩ := cueOfBytes_eq_some_iff.1 read
    refine ⟨offset, every, phase, tag, ?_⟩
    rcases (cueAction_eq_some_iff _ _ _).1 action with
        ⟨code, bit, l, names, e⟩ | ⟨code, bit, l, names, e⟩ | ⟨code, bit, width, l, names, e⟩ |
        ⟨code, bit, names, e⟩
    · exact ⟨fun _ => ⟨l, names, e⟩, by omega, by omega, by omega⟩
    · exact ⟨by omega, fun _ => ⟨l, names, e⟩, by omega, by omega⟩
    · exact ⟨by omega, by omega, fun _ => ⟨l, names, e⟩, by omega⟩
    · exact ⟨by omega, by omega, by omega, fun _ => e⟩

/-! ### The gate and the slot test -/

theorem RunRecord.lateFor_iff (r : RunRecord) (b : BookId) :
    r.lateFor b = true ↔ r.mode = .alternate ∧ r.active ≠ some b ∧ r.turn = 1 := by
  simp [RunRecord.lateFor, and_assoc]

theorem HostRecord.loadTarget_iff (r : HostRecord) (b : BookId) :
    r.loadTarget b = true ↔ r.load.map (·.book) = some b := by
  simp [HostRecord.loadTarget]

/-- Settles O15: the gate row by row, and the slot test with the common slots free written out. -/
theorem gateAndSlotTest : Obligations.GateAndSlotTest := by
  refine ⟨fun r b => ⟨fun state => ?_, fun state => ?_, fun state => ?_, fun state target => ?_,
    fun state other => ?_, fun state late => ?_, fun state early => ?_⟩, fun s h k => ?_⟩
  · simp only [HostRecord.gate, state]
  · simp only [HostRecord.gate, state]
  · simp only [HostRecord.gate, state]
  · simp only [HostRecord.gate, state, if_pos ((r.loadTarget_iff b).2 target)]
  · simp only [HostRecord.gate, state, if_neg (mt (r.loadTarget_iff b).1 other)]
  · simp only [HostRecord.gate, state, if_pos ((r.run.lateFor_iff b).2 late)]
  · simp only [HostRecord.gate, state, if_neg (mt (r.run.lateFor_iff b).1 early)]
  · simp only [State.slotTest, Bool.or_eq_true, decide_eq_true_eq, State.commonFree,
      State.drawn_eq]
    rfl

end Sys2Proof.Machine
end

section
/-!
PROOFS. LOAD CUES: the payload cut into its cues, the failing cue, the rows of R66, and the settlement
of O20 (R66 to R68).
-/

namespace Sys2Proof.Machine

open Sys2Proof.Safety

/-! ### The payload cut into cues -/

/-- Of chunks of one length, the chunk at a place is what stands there in their concatenation. -/
theorem take_drop_flatten {α : Type} {n : Nat} {chunks : List (List α)}
    (lengths : ∀ k ∈ chunks, k.length = n) {i : Nat} (h : i < chunks.length) :
    (chunks.flatten.drop (n * i)).take n = chunks[i] := by
  induction chunks generalizing i with
  | nil => cases h
  | cons c cs ih =>
    have first : c.length = n := lengths c List.mem_cons_self
    cases i with
    | zero => simp [← first]
    | succ i =>
      have step : n * (i + 1) = c.length + n * i := by rw [first]; ring
      rw [List.flatten_cons, step, List.drop_append, List.drop_eq_nil_of_le (Nat.le_add_right _ _),
        List.nil_append, Nat.add_sub_cancel_left, List.getElem_cons_succ]
      exact ih (fun k mem => lengths k (List.mem_cons_of_mem _ mem)) (Nat.lt_of_succ_lt_succ h)

theorem length_flatten_of_lengths {α : Type} {n : Nat} {chunks : List (List α)}
    (lengths : ∀ k ∈ chunks, k.length = n) : chunks.flatten.length = chunks.length * n := by
  rw [List.length_flatten, List.map_congr_left lengths]
  simp

/-- A payload of one to four cues of ten bytes is read as those cues (R66). -/
theorem cueChunks_flatten {chunks : List (List Byte)} (least : 1 ≤ chunks.length)
    (most : chunks.length ≤ 4) (lengths : ∀ k ∈ chunks, k.length = 10) :
    cueChunks chunks.flatten = some chunks := by
  have count : chunks.flatten.length / cueBytes = chunks.length := by
    rw [length_flatten_of_lengths lengths]
    exact Nat.mul_div_cancel _ (by decide)
  unfold cueChunks
  rw [count, if_pos ⟨by rw [length_flatten_of_lengths lengths]; simp [cueBytes], least, most⟩]
  refine congrArg some (List.ext_getElem (by simp) fun i hi _ => ?_)
  rw [List.getElem_map, List.getElem_range]
  exact take_drop_flatten lengths _

theorem cuesOfChunks_error {chunks : List (List Byte)} {k : Nat} (below : k < chunks.length)
    (before : ∀ x ∈ chunks.take k, (cueOfBytes x).isSome = true)
    (fails : ∀ x ∈ chunks[k]?, cueOfBytes x = none) : cuesOfChunks chunks = .error k := by
  have search : chunks.findIdx? (fun c => (cueOfBytes c).isNone) = some k := by
    refine List.findIdx?_eq_some_iff_getElem.2 ⟨below, ?_, fun j earlier => ?_⟩
    · simp [fails chunks[k] (by simp [below])]
    · have passes := before chunks[j] (List.mem_take_iff_getElem.2 ⟨j, by omega, rfl⟩)
      simpa [Option.isSome_iff_ne_none] using passes
  simp only [cuesOfChunks, search]

theorem cuesOfChunks_ok {chunks : List (List Byte)}
    (all : ∀ x ∈ chunks, (cueOfBytes x).isSome = true) :
    cuesOfChunks chunks = .ok (chunks.filterMap cueOfBytes) := by
  have search : chunks.findIdx? (fun c => (cueOfBytes c).isNone) = none :=
    List.findIdx?_eq_none_iff.2 fun x mem => by
      simpa [Option.isSome_iff_ne_none] using all x mem
  simp only [cuesOfChunks, search]

/-! ### The rows of R66 -/

section Feed

variable {h : HostId} {cues : List Cue} {s : State} {ld : Load}

theorem feedLoad_noLoad (noLoad : (s.host h).load = none) :
    feedLoad h cues s = s.refuse .noLoad := by
  simp only [feedLoad, noLoad]

theorem feedLoad_tooMany (load : (s.host h).load = some ld)
    (tooMany : ld.declared - ld.received < cues.length) :
    feedLoad h cues s = s.refuse .badArgument := by
  simp only [feedLoad, load, if_pos tooMany]

theorem feedLoad_progress (load : (s.host h).load = some ld)
    (more : ld.received + cues.length < ld.declared) :
    feedLoad h cues s =
      ⟨.done,
        .loadProgress ld.book (ld.received + cues.length)
          (ld.declared - (ld.received + cues.length)),
        s.setHost h
          (((s.host h).setBook ld.book
              { s.book h ld.book with cues := (s.book h ld.book).cues ++ cues }).setLoad
            (some { ld with received := ld.received + cues.length, idle := 0 }))⟩ := by
  have room : ¬ ld.declared - ld.received < cues.length := by omega
  simp only [feedLoad, load, if_neg room, if_pos more]
  rfl

theorem feedLoad_complete (load : (s.host h).load = some ld)
    (all : ld.received + cues.length = ld.declared) :
    feedLoad h cues s =
      ⟨.complete, .loadComplete ld.book ((s.book h ld.book).cues.length + cues.length),
        s.setHost h
          (((s.host h).setBook ld.book
              { s.book h ld.book with cues := (s.book h ld.book).cues ++ cues }).setLoad
            none)⟩ := by
  have room : ¬ ld.declared - ld.received < cues.length := by omega
  have done : ¬ ld.received + cues.length < ld.declared := by omega
  simp only [feedLoad, load, if_neg room, if_neg done, List.length_append]
  rfl

end Feed

theorem exec_loadCues_error {h : HostId} {seq : Byte} {payload : List Byte}
    {chunks : List (List Byte)} {k : Nat} (s : State) (cut : cueChunks payload = some chunks)
    (fails : cuesOfChunks chunks = .error k) :
    exec (.loadCues h seq payload) s =
      .next (s.take h seq 0x19 payload fun t => t.refuseWith (.badArgument, .failingCue k)) := by
  change execLoadCues h seq _ s = _
  simp only [execLoadCues, cut, fails]

theorem exec_loadCues_ok {h : HostId} {seq : Byte} {payload : List Byte}
    {chunks : List (List Byte)} {cues : List Cue} (s : State)
    (cut : cueChunks payload = some chunks) (read : cuesOfChunks chunks = .ok cues) :
    exec (.loadCues h seq payload) s = .next (s.take h seq 0x19 payload (feedLoad h cues)) := by
  change execLoadCues h seq _ s = _
  simp only [execLoadCues, cut, read]

/-- Settles O20: the first failing cue is named, and of cues that pass the load decides by what it
still awaits. -/
theorem loadCuesRequest : Obligations.LoadCuesRequest := by
  intro h seq chunks s least most lengths next
  have cut := cueChunks_flatten least most lengths
  refine ⟨fun k mem before fails => ?_, fun all => ?_⟩
  · exact refuses_of_take (exec_loadCues_error s cut
      (cuesOfChunks_error (List.mem_range.1 mem) before fails)) next rfl
  · have run := exec_loadCues_ok (h := h) (seq := seq) s cut (cuesOfChunks_ok all)
    have count : (chunks.filterMap cueOfBytes).length = chunks.length :=
      List.filterMap_length_eq_length.2 all
    rw [← count]
    refine ⟨fun noLoad => refuses_of_take run next (feedLoad_noLoad noLoad), fun ld load =>
      ⟨fun tooMany within => ?_, fun more => ?_, fun done => ?_⟩⟩
    · exact refuses_of_take run next (feedLoad_tooMany (s := s.popRequest h) load (by omega))
    · exact answers_of_take run next (feedLoad_progress (s := s.popRequest h) load more)
        ⟨rfl, rfl, rfl, rfl⟩ ⟨rfl, rfl, rfl, rfl, rfl⟩ rfl
    · exact answers_of_take run next (feedLoad_complete (s := s.popRequest h) load done)
        ⟨rfl, rfl, rfl, rfl⟩ ⟨rfl, rfl, rfl, rfl, rfl⟩ rfl

end Sys2Proof.Machine
end

section
/-!
PROOFS. LOAD CANCEL, COMPILE ABORT, SWAP CANCEL, SWAP and PROPOSAL WITHDRAW: the rows of each, and the
settlement of O21, O26 and O31 (R69, R70, R88, R99 to R101, R151, R157).
-/

namespace Sys2Proof.Machine

open Sys2Proof.Safety

section Rows

variable {h : HostId} {b : BookId} {s : State}

/-! ### LOAD CANCEL and COMPILE ABORT -/

theorem cancelLoad_noLoad (noLoad : (s.host h).load = none) :
    cancelLoad h s = s.refuse .noLoad := by simp only [cancelLoad, noLoad]

theorem cancelLoad_rolledBack {ld : Load} (load : (s.host h).load = some ld) :
    cancelLoad h s =
      ⟨.done,
        .loadCancelled ld.book ld.received (min ld.lengthAtOpen (s.book h ld.book).cues.length),
        s.setHost h ((s.host h).rollBack ld)⟩ := by
  simp [cancelLoad, load, HostRecord.rollBack, State.book]

theorem abortCompile_noJob (noJob : ∀ j ∈ s.jobs, j.host ≠ h) :
    abortCompile h s = s.refuse .nothingPending := by
  have search : s.jobs.find? (fun j => j.host == h) = none := by simpa using noJob
  simp only [abortCompile, search]

theorem abortCompile_job {j : Job} (job : j ∈ s.jobs) (own : j.host = h)
    (only : ∀ k ∈ s.jobs, k.host = h → k = j) :
    abortCompile h s =
      ⟨.done, .bookOnly j.book, (s.setBook h j.book (s.book h j.book).edited).dropJob h⟩ := by
  have search : s.jobs.find? (fun j => j.host == h) = some j := by
    cases found : s.jobs.find? (fun j => j.host == h) with
    | none => exact absurd own (by simpa using List.find?_eq_none.1 found j job)
    | some k =>
      rw [only k (List.mem_of_find?_eq_some found) (by simpa using List.find?_some found)]
  simp only [abortCompile, search]

/-! ### SWAP CANCEL and SWAP -/

theorem cancelSwap_nothing (other : (s.run h).action = .none ∨ (s.run h).action = .halt) :
    cancelSwap h s = s.refuse .nothingPending := by
  rcases other with action | action <;> simp only [cancelSwap, action]

theorem State.moveBook_setRun (s : State) (h : HostId) (b : BookId) (st : BookState)
    (r : RunRecord) :
    (s.moveBook h b st).setRun h r =
      s.setHost h (((s.host h).setBook b { s.book h b with state := st }).setRun r) := by
  simp [State.moveBook, State.setRun, State.setBook, Book.inState]

theorem cancelSwap_swap (action : (s.run h).action = .swapTo b) :
    cancelSwap h s =
      ⟨.done, .bookOnly b,
        s.setHost h
          (((s.host h).setBook b { s.book h b with state := .ready }).setRun
            { s.run h with action := .none })⟩ := by
  simp only [cancelSwap, action, State.moveBook_setRun]

/-- A refused SWAP names the book and the state it keeps (R99). -/
def refusedSwap (s : State) (h : HostId) (b : BookId) (c : ReplyCode) : Answer :=
  s.refuseWith (c, .swapRefused (some b) (some (s.book h b).state))

theorem swapBook_alternate (alternate : (s.run h).mode = .alternate) :
    swapBook h b s = refusedSwap s h b .mode := if_pos alternate

theorem swapBook_notReady {c : ReplyCode} (single : (s.run h).mode = .single)
    (refusal : (s.host h).swapRefusal b = some c) : swapBook h b s = refusedSwap s h b c := by
  have notAlternate : (s.host h).run.mode ≠ .alternate := by
    rw [show (s.host h).run.mode = _ from single]
    decide
  simp only [swapBook, if_neg notAlternate, refusal]
  rfl

theorem HostRecord.swapRefusal_ready {r : HostRecord} (ready : (r.book b).state = .ready) :
    r.swapRefusal b = none := by simp only [HostRecord.swapRefusal, ready]

theorem swapBook_ready (single : (s.run h).mode = .single) (ready : (s.book h b).state = .ready) :
    swapBook h b s =
      if (s.run h).action ≠ .none then refusedSwap s h b .busy
      else
        ⟨.accepted, .swap b .pending (s.timebase.frame + 1),
          s.setHost h
            (((s.host h).setBook b { s.book h b with state := .pending }).setRun
              { s.run h with action := .swapTo b })⟩ := by
  have notAlternate : (s.host h).run.mode ≠ .alternate := by
    rw [show (s.host h).run.mode = _ from single]
    decide
  simp only [swapBook, if_neg notAlternate, HostRecord.swapRefusal_ready ready,
    State.moveBook_setRun]
  rfl

/-! ### PROPOSAL WITHDRAW -/

variable {p : Proposal}

theorem withdrawProposal_noRecord (noRecord : s.proposal = none) :
    withdrawProposal h s = s.refuse .noProposal := by simp only [withdrawProposal, noRecord]

theorem withdrawProposal_foreign (record : s.proposal = some p) (foreign : p.proposer ≠ h) :
    withdrawProposal h s = s.refuse .noProposal := by
  simp only [withdrawProposal, record, if_pos foreign]

theorem withdrawProposal_own (record : s.proposal = some p) (own : p.proposer = h) :
    withdrawProposal h s =
      if p.state = .agreed then s.refuse .agreed
      else ⟨.done, .none, s.endProposal p .withdrawn⟩ := by
  simp only [withdrawProposal, record, if_neg (not_not_intro own)]

end Rows

theorem exec_loadCancel (h : HostId) (seq : Byte) (s : State) :
    exec (.loadCancel h seq []) s = .next (s.take h seq 0x1A [] (cancelLoad h)) := rfl

theorem exec_compileAbort (h : HostId) (seq : Byte) (s : State) :
    exec (.compileAbort h seq []) s = .next (s.take h seq 0x1D [] (abortCompile h)) := rfl

theorem exec_swapCancel (h : HostId) (seq : Byte) (s : State) :
    exec (.swapCancel h seq []) s = .next (s.take h seq 0x21 [] (cancelSwap h)) := rfl

theorem exec_proposalWithdraw (h : HostId) (seq : Byte) (s : State) :
    exec (.proposalWithdraw h seq []) s =
      .next (s.take h seq 0x2A [] (withdrawProposal h)) := rfl

/-- Settles O21: each of the three with and without something to end. -/
theorem cancellingRequests : Obligations.CancellingRequests := by
  intro h seq s
  refine ⟨fun next => ⟨fun noLoad => ?_, fun ld load => ?_⟩,
    fun next => ⟨fun noJob => ?_, fun j job own only => ?_⟩,
    fun next => ⟨fun nothing => ?_, fun b _ action => ?_⟩⟩
  · exact refuses_of_take (exec_loadCancel h seq s) next (cancelLoad_noLoad noLoad)
  · exact answers_of_take (exec_loadCancel h seq s) next
      (cancelLoad_rolledBack (s := s.popRequest h) load)
      ⟨rfl, rfl, rfl, rfl⟩ ⟨rfl, rfl, rfl, rfl, rfl⟩ rfl
  · exact refuses_of_take (exec_compileAbort h seq s) next (abortCompile_noJob noJob)
  · exact answers_of_take (exec_compileAbort h seq s) next
      (abortCompile_job (s := s.popRequest h) job own only)
      ⟨rfl, rfl, rfl, rfl⟩ ⟨rfl, rfl, rfl, rfl, rfl⟩ rfl
  · exact refuses_of_take (exec_swapCancel h seq s) next (cancelSwap_nothing nothing)
  · exact answers_of_take (exec_swapCancel h seq s) next
      (cancelSwap_swap (s := s.popRequest h) action)
      ⟨rfl, rfl, rfl, rfl⟩ ⟨rfl, rfl, rfl, rfl, rfl⟩ rfl

theorem exec_swap_misread {h : HostId} {seq x : Byte} (s : State)
    (misread : bookOfByte x = none) :
    exec (.swap h seq [x]) s =
      .next (s.take h seq 0x20 [x] fun t =>
        t.refuseWith (.badArgument, .swapRefused none none)) := by
  change execSwap h seq _ s = _
  simp only [execSwap, misread]

theorem exec_swap_read {h : HostId} {seq x : Byte} {b : BookId} (s : State)
    (book : bookOfByte x = some b) :
    exec (.swap h seq [x]) s = .next (s.take h seq 0x20 [x] (swapBook h b)) := by
  change execSwap h seq _ s = _
  simp only [execSwap, book]

/-- Settles O26: the book, the mode, the rows of a book that is not READY, and then the pending
action. -/
theorem swapRequest : Obligations.SwapRequest := by
  intro h seq x s next
  refine ⟨fun misread => refuses_of_take (exec_swap_misread s misread) next rfl, fun b book => ?_⟩
  have run := exec_swap_read (h := h) (seq := seq) s book
  refine ⟨fun alternate => refuses_of_take run next
    (swapBook_alternate (s := s.popRequest h) alternate), fun single => ?_⟩
  have notReady {c : ReplyCode} {st : BookState} (state : (s.book h b).state = st)
      (refusal : (s.host h).swapRefusal b = some c) :
      refuses (.swap h seq [x]) s h ⟨seq, 0x20, [x]⟩ c (.swapRefused (some b) (some st)) := by
    rw [← state]
    exact refuses_of_take run next (swapBook_notReady (s := s.popRequest h) single refusal)
  have refusal {st : BookState} (state : (s.book h b).state = st) :
      ((s.host h).book b).state = st := state
  refine ⟨fun state => notReady state ?_, fun state => notReady state ?_,
    fun state => notReady state ?_, fun state target => notReady state ?_,
    fun state other => notReady state ?_, fun ready busy => ?_, fun ready idle => ?_⟩
  · simp only [HostRecord.swapRefusal, refusal state]
  · simp only [HostRecord.swapRefusal, refusal state]
  · simp only [HostRecord.swapRefusal, refusal state]
  · simp only [HostRecord.swapRefusal, refusal state, if_pos target]
  · simp only [HostRecord.swapRefusal, refusal state, if_neg other]
  · rw [← ready]
    exact refuses_of_take run next
      ((swapBook_ready (s := s.popRequest h) single ready).trans (if_pos busy))
  · exact answers_of_take run next
      ((swapBook_ready (s := s.popRequest h) single ready).trans (if_neg (not_not_intro idle)))
      ⟨rfl, rfl, rfl, rfl⟩ ⟨rfl, rfl, rfl, rfl, rfl⟩ rfl

/-- Settles O31: the record, its proposer and its state in R151's order, and the ending told as R157
says. -/
theorem proposalWithdrawRequest : Obligations.ProposalWithdrawRequest := by
  intro h seq s next
  have run := exec_proposalWithdraw h seq s
  refine ⟨fun noRecord => refuses_of_take run next (withdrawProposal_noRecord noRecord),
    fun p record => ⟨fun foreign => ?_, fun own agreed => ?_, fun own opened => ?_⟩⟩
  · exact refuses_of_take run next (withdrawProposal_foreign (s := s.popRequest h) record foreign)
  · exact refuses_of_take run next
      ((withdrawProposal_own (s := s.popRequest h) record own).trans (if_pos agreed))
  · have answer := (withdrawProposal_own (s := s.popRequest h) record own).trans
      (if_neg (by simp [opened]))
    rw [State.endProposal_opened (s := s.popRequest h) record opened] at answer
    exact answers_of_postsOf run next answer ⟨rfl, rfl, rfl, rfl⟩ ⟨rfl, rfl, rfl, rfl, rfl⟩ rfl rfl

end Sys2Proof.Machine
end

section
/-!
PROOFS. The run list and the completion of a job: the settlement of O25 and O23 (R42, R81, R86, R87).
-/

namespace Sys2Proof.Machine

open Sys2Proof.Safety

/-! ### The run list -/

/-- Every cue's offset with its index, in the order of the cues. -/
def offsetPairs (cues : List Cue) : List (Nat × Nat) :=
  (List.range cues.length).filterMap fun i => cues[i]?.map fun c => (c.offset, i)

/-- The order of a run list: by offset, and at equal offsets by index (R42). -/
def firesBefore (a b : Nat × Nat) : Bool := a.1 < b.1 || (a.1 == b.1 && a.2 ≤ b.2)

theorem firesBefore_iff (a b : Nat × Nat) :
    firesBefore a b = true ↔ a.1 < b.1 ∨ (a.1 = b.1 ∧ a.2 ≤ b.2) := by
  simp [firesBefore]

theorem buildRunList_eq (cues : List Cue) :
    buildRunList cues = (orderBy firesBefore (offsetPairs cues)).map (·.2) := rfl

theorem mem_offsetPairs {cues : List Cue} {x : Nat × Nat} (mem : x ∈ offsetPairs cues) :
    ∃ c, cues[x.2]? = some c ∧ c.offset = x.1 := by
  obtain ⟨i, _, spelled⟩ := List.mem_filterMap.1 mem
  obtain ⟨c, at', rfl⟩ := Option.map_eq_some_iff.1 spelled
  exact ⟨c, at', rfl⟩

theorem map_snd_offsetPairs (cues : List Cue) :
    (offsetPairs cues).map (·.2) = List.range cues.length := by
  have kept : (List.range cues.length).filterMap (fun i => (cues[i]?.map fun c => (c.offset, i)).map
      (·.2)) = (List.range cues.length).filterMap some :=
    List.filterMap_congr fun i mem => by
      simp [List.getElem?_eq_getElem (List.mem_range.1 mem)]
  rw [offsetPairs, List.map_filterMap, kept, List.filterMap_some]

theorem buildRunList_perm (cues : List Cue) :
    (buildRunList cues).Perm (List.range cues.length) := by
  rw [buildRunList_eq, ← map_snd_offsetPairs]
  exact (orderBy_perm _ _).map _

/-- Settles O25: ordering keeps every index, and two indices at one offset stand in their order. -/
theorem runListOrder : Obligations.RunListOrder := by
  intro cues
  have perm := buildRunList_perm cues
  refine ⟨perm, ?_⟩
  have ordered := orderBy_pairwise firesBefore
    (fun a b => by simp only [firesBefore_iff]; omega)
    (fun a b c => by simp only [firesBefore_iff]; omega) (offsetPairs cues)
  have distinct : (buildRunList cues).Nodup := perm.nodup_iff.2 List.nodup_range
  rw [buildRunList_eq] at distinct ⊢
  refine List.pairwise_map.2 ((ordered.and (List.pairwise_map.1 distinct)).imp_of_mem ?_)
  rintro x y memX memY ⟨before, other⟩ a atX b atY
  obtain ⟨a', atX', offsetX⟩ := mem_offsetPairs ((orderBy_perm _ _).mem_iff.1 memX)
  obtain ⟨b', atY', offsetY⟩ := mem_offsetPairs ((orderBy_perm _ _).mem_iff.1 memY)
  obtain rfl := Option.some.inj (atX.symm.trans atX')
  obtain rfl := Option.some.inj (atY.symm.trans atY')
  rw [firesBefore_iff] at before
  omega

/-! ### The completion -/

/-- The book of a completion, field by field (R86, R87). -/
theorem Book.completed_eq (b : Book) (r : Report) :
    b.completed r =
      ⟨b.cues, if r.outcome = .ready then .ready else .draft,
        if r.outcome = .ready then some (buildRunList b.cues) else none, some r⟩ := by
  unfold Book.completed
  split <;> rfl

theorem exec_compileCompletion_job {s : State} {j : Job} (high : s.rstN = true)
    (first : s.jobs.head? = some j) : exec .compileCompletion s = .next (s.completeJob j) := by
  obtain ⟨js, jobs⟩ := List.head?_eq_some_iff.1 first
  change execCompileCompletion s = _
  simp only [execCompileCompletion, high, jobs]

theorem exec_compileCompletion_none {s : State} (noJob : s.jobs = []) :
    exec .compileCompletion s = .next s := by
  change execCompileCompletion s = _
  simp only [execCompileCompletion, noJob]
  split
  · contradiction
  · rfl

/-- Settles O23: the job at the head of the queue completes with the report of the checks, and its
owner is told. -/
theorem compileCompletion : Obligations.CompileCompletion := by
  intro s high
  refine ⟨exec_compileCompletion_none, fun j first =>
    ⟨_, exec_compileCompletion_job high first, ?_, ?_, fun g => ?_⟩⟩
  · simp [State.completeJob, State.setBook, samePins]
  · rw [← Book.completed_eq (s.book j.host j.book)]
    simp [State.completeJob, State.setBook, State.book, sameBlocks]
  · exact plainPort_post_only _ _ _ g

end Sys2Proof.Machine
end

section
/-!
PROOFS. The checks of a completion: ownership and fit, the NOTE limit, and the settlement of their
spacing test against the statement's ordered actions; O24 (R81 to R87).
-/

namespace Sys2Proof.Machine

open Sys2Proof.Safety

/-! ### Ownership and fit (R82) -/

/-- The cue's lane, where it has one, is HELD or OFFERED by the owner. -/
abbrev State.owns (s : State) (h : HostId) (c : Cue) : Prop :=
  ∀ l ∈ c.lane?, (s.lane l).state ∈ [LaneState.held, .offered] ∧ (s.lane l).holder = some h

/-- A cue with a lane fits every length checked. -/
abbrev State.fitsChecked (s : State) (c : Cue) : Prop :=
  c.lane? = none ∨ ∀ f ∈ s.lengthsChecked, c.fits f = true

theorem LaneRecord.ownedBy_iff (x : LaneRecord) (h : HostId) :
    x.ownedBy h = true ↔ x.state ∈ [LaneState.held, .offered] ∧ x.holder = some h := by
  simp [LaneRecord.ownedBy]

theorem State.cueFailure_notHolder {s : State} {h : HostId} {c : Cue} (foreign : ¬ s.owns h c) :
    s.cueFailure h c = some .notHolder := by
  simp only [State.owns, not_forall] at foreign
  obtain ⟨l, lane, foreign⟩ := foreign
  rw [← LaneRecord.ownedBy_iff] at foreign
  unfold State.cueFailure
  rw [Option.mem_def.1 lane]
  simp [foreign]

theorem State.cueFailure_noFit {s : State} {h : HostId} {c : Cue} (own : s.owns h c)
    (misfit : ¬ s.fitsChecked c) : s.cueFailure h c = some .noFit := by
  obtain ⟨noLane, misfit⟩ := not_or.1 misfit
  obtain ⟨l, lane⟩ := Option.ne_none_iff_exists'.1 noLane
  have owned := (LaneRecord.ownedBy_iff (s.lane l).toLaneRecord h).2 (own l lane)
  unfold State.cueFailure
  rw [lane]
  simpa [owned] using misfit

theorem State.cueFailure_none {s : State} {h : HostId} {c : Cue} (own : s.owns h c)
    (fit : s.fitsChecked c) : s.cueFailure h c = none := by
  unfold State.cueFailure
  split
  · rfl
  · rename_i l lane
    have owned := (LaneRecord.ownedBy_iff (s.lane l).toLaneRecord h).2 (own l lane)
    have fits := fit.resolve_left (by simp [lane])
    simpa [owned] using fits

theorem State.ownershipAndFit_none {s : State} {h : HostId} {cues : List Cue}
    (pass : ∀ d ∈ cues, s.cueFailure h d = none) (i : Nat) :
    s.ownershipAndFit h i cues = none := by
  induction cues generalizing i with
  | nil => rfl
  | cons c cs ih =>
    simp only [State.ownershipAndFit, pass c List.mem_cons_self]
    exact ih (fun d mem => pass d (List.mem_cons_of_mem _ mem)) _

theorem State.ownershipAndFit_first {s : State} {h : HostId} {cues : List Cue} {k : Nat} {c : Cue}
    {o : ReportOutcome} (here : cues[k]? = some c) (fails : s.cueFailure h c = some o)
    (pass : ∀ d ∈ cues.take k, s.cueFailure h d = none) (i : Nat) :
    s.ownershipAndFit h i cues = some (i + k, o) := by
  induction cues generalizing i k with
  | nil => cases here
  | cons d ds ih =>
    cases k with
    | zero =>
      obtain rfl : d = c := by simpa using here
      simp only [State.ownershipAndFit, fails]
      rfl
    | succ k =>
      have before : s.cueFailure h d = none := pass d (by simp)
      simp only [State.ownershipAndFit, before]
      rw [ih (k := k) (by simpa using here) (fun x mem => pass x (by simp [mem])) (i + 1)]
      congr 2
      omega

/-! ### The NOTE limit (R83) -/

/-- The NOTE cues among the first `k` are as many as their indices. -/
theorem length_noteIndices_take (cues : List Cue) (k : Nat) (within : k ≤ cues.length) :
    ((List.range k).filter fun i => (cues[i]?.map (·.action)) == some .note).length =
      (cues.take k).countP fun d => d.action == .note := by
  induction k with
  | zero => simp
  | succ k ih =>
    have below : k < cues.length := by omega
    rw [List.range_succ, List.filter_append, List.length_append, ih (by omega), List.take_add_one,
      List.countP_append]
    by_cases note : cues[k].action = .note <;>
      simp [List.getElem?_eq_getElem below, note]

theorem noteCheck_none {cues : List Cue}
    (few : cues.countP (fun d => d.action == .note) ≤ 16) : noteCheck cues = none := by
  have length := length_noteIndices_take cues cues.length le_rfl
  rw [List.take_length] at length
  exact List.getElem?_eq_none (by unfold noteIndices noteLimit; omega)

/-- The seventeenth NOTE cue is the one with sixteen before it. -/
theorem noteCheck_some {cues : List Cue} {i : Nat} {c : Cue} (here : cues[i]? = some c)
    (note : c.action = .note) (before : (cues.take i).countP (fun d => d.action == .note) = 16) :
    noteCheck cues = some i := by
  have below : i < cues.length := (List.getElem?_eq_some_iff.1 here).1
  have length := length_noteIndices_take cues i below.le
  obtain ⟨rest, split⟩ : ∃ rest, List.range cues.length = List.range i ++ i :: rest :=
    ⟨_, by
      rw [show cues.length = i + (cues.length - i - 1 + 1) by omega, List.range_add,
        List.range_succ_eq_map]
      simp only [List.map_cons, Nat.add_zero]
      rfl⟩
  unfold noteCheck noteIndices
  rw [split, List.filter_append, List.filter_cons, if_pos (by simp [here, note]),
    List.getElem?_append_right (by rw [length, before]; decide), length, before]
  rfl

/-! ### The ordered actions of a lane (R84) -/

theorem ActionAt.before_iff (a b : ActionAt) : a.before b = true ↔ actsBefore a b := by
  simp [ActionAt.before, actsBefore]

theorem actsBefore_total (a b : ActionAt) : actsBefore a b ∨ actsBefore b a := by
  cases ea : a.isEnd <;> cases eb : b.isEnd <;> simp [actsBefore, ea, eb] <;> omega

theorem actsBefore_trans (a b c : ActionAt) (ab : actsBefore a b) (bc : actsBefore b c) :
    actsBefore a c := by
  cases ea : a.isEnd <;> cases eb : b.isEnd <;> cases ec : c.isEnd <;>
    simp [actsBefore, ea, eb, ec] at ab bc ⊢ <;> omega

theorem actsBefore_antisymm (a b : ActionAt) (ab : actsBefore a b) (ba : actsBefore b a) :
    a = b := by
  obtain ⟨pa, ea, ia⟩ := a
  obtain ⟨pb, eb, ib⟩ := b
  cases ea <;> cases eb <;> simp [actsBefore] at ab ba ⊢ <;> omega

theorem actionsOf_eq (c : Cue) (i : Nat) :
    actionsOf c i =
      ⟨c.offset, false, i⟩ ::
        ((pulseWidth c).map fun w => (⟨c.offset + w, true, i⟩ : ActionAt)).toList := by
  unfold actionsOf pulseWidth
  cases c.action <;> rfl

theorem laneActions_eq (cues : List Cue) (l : LaneId) :
    laneActions cues l = orderBy ActionAt.before (actionsOn cues l) := by
  unfold laneActions actionsOn
  refine congrArg _ (List.flatMap_congr fun i _ => ?_)
  cases cues[i]? with
  | none => rfl
  | some c => by_cases on : c.lane? = some l <;> simp [on, actionsOf_eq, Option.filter]

/-- The model's ordered actions are the only ordered ones. -/
theorem laneActions_unique {cues : List Cue} {l : LaneId} {as : List ActionAt}
    (perm : as.Perm (actionsOn cues l)) (ordered : as.Pairwise actsBefore) :
    laneActions cues l = as := by
  rw [laneActions_eq]
  have sorted := orderBy_pairwise ActionAt.before
    (fun a b => by simpa only [ActionAt.before_iff] using actsBefore_total a b)
    (fun a b c => by simpa only [ActionAt.before_iff] using actsBefore_trans a b c)
    (actionsOn cues l)
  simp only [ActionAt.before_iff] at sorted
  exact ((orderBy_perm _ _).trans perm.symm).eq_of_pairwise
    (fun a b _ _ => actsBefore_antisymm a b) sorted ordered

/-! ### The pairs tested (R85) -/

/-- The pairs of neighbours and the wraps that are closer than `sp`, in the order tested. -/
def closerThan (sp : Nat) (lengths : List Nat) (as : List ActionAt) : List (Nat × Nat × Nat) :=
  (testedPairs lengths as).filter fun x => x.2.2 < sp

/-- The two cues of a tested pair. -/
def pairCues (x : Nat × Nat × Nat) : Nat × Nat := (x.1, x.2.1)

/-- Each action and the one before it. -/
def neighbourPairs (as : List ActionAt) : List (Nat × Nat × Nat) :=
  (as.zip as.tail).map fun x => (x.2.index, x.1.index, x.2.position - x.1.position)

/-- The wrap from the last action to the first, for each length. -/
def wrapPairs (lengths : List Nat) (as : List ActionAt) : List (Nat × Nat × Nat) :=
  match as.head?, as.getLast? with
  | some a, some z => lengths.map fun f => (a.index, z.index, f + a.position - z.position)
  | _, _ => []

theorem testedPairs_eq (lengths : List Nat) (as : List ActionAt) :
    testedPairs lengths as = neighbourPairs as ++ wrapPairs lengths as := rfl

@[simp] theorem neighbourPairs_cons_cons (a b : ActionAt) (as : List ActionAt) :
    neighbourPairs (a :: b :: as) =
      (b.index, a.index, b.position - a.position) :: neighbourPairs (b :: as) := rfl

theorem wrapPairs_of_ends {lengths : List Nat} {as : List ActionAt} {a z : ActionAt}
    (first : as.head? = some a) (last : as.getLast? = some z) :
    wrapPairs lengths as =
      lengths.map fun f => (a.index, z.index, f + a.position - z.position) := by
  unfold wrapPairs
  rw [first, last]

theorem closePair_eq (sp : Nat) (as : List ActionAt) :
    closePair sp as = ((neighbourPairs as).filter fun x => x.2.2 < sp).head?.map pairCues := by
  induction as with
  | nil => rfl
  | cons a as ih =>
    cases as with
    | nil => rfl
    | cons b rest =>
      rw [neighbourPairs_cons_cons, closePair]
      by_cases close : b.position - a.position < sp
      · simp [close, pairCues]
      · simp [close, ih]

theorem closeWrap_eq (sp : Nat) (lengths : List Nat) (as : List ActionAt) :
    closeWrap sp lengths as =
      ((wrapPairs lengths as).filter fun x => x.2.2 < sp).head?.map pairCues := by
  unfold closeWrap
  split
  · rename_i a z first last
    rw [wrapPairs_of_ends first last]
    induction lengths with
    | nil => rfl
    | cons f fs ih =>
      by_cases close : f + a.position - z.position < sp
      · simp [close, pairCues]
      · simpa [close] using ih
  · rename_i ends
    unfold wrapPairs
    split
    · exact absurd ‹_› (ends _ _ ‹_›)
    · rfl

/-- The spacing check of a lane is the first tested pair that is too close. -/
theorem State.laneSpacing_eq (s : State) {cues : List Cue} {l : LaneId} {as : List ActionAt}
    (actions : laneActions cues l = as) :
    s.laneSpacing cues l =
      (closerThan (spacingOf (s.lane l).toLaneRecord) s.lengthsChecked as).head?.map pairCues := by
  have used : (s.lane l).spacingUsed = spacingOf (s.lane l).toLaneRecord := by
    unfold LaneRecord.spacingUsed spacingOf
    split <;> simp [*]
  have first (xs ys : List (Nat × Nat × Nat)) :
      ((xs.head?.map pairCues).or (ys.head?.map pairCues)) = (xs ++ ys).head?.map pairCues := by
    cases xs <;> simp
  simp only [State.laneSpacing, actions, used, closePair_eq, closeWrap_eq, first]
  rw [closerThan, testedPairs_eq, List.filter_append]

/-- The spacing check of a book is the first lane's first tested pair that is too close (R85). -/
theorem State.spacingCheck_eq (s : State) {cues : List Cue} {as : LaneId → List ActionAt}
    (actions : ∀ l, laneActions cues l = as l) :
    s.spacingCheck cues =
      (allLanes.flatMap fun l =>
        closerThan (spacingOf (s.lane l).toLaneRecord) s.lengthsChecked (as l)).head?.map
          pairCues := by
  unfold State.spacingCheck
  rw [List.head?_flatMap, List.map_findSome?]
  exact congrArg (allLanes.findSome? ·) (funext fun l => s.laneSpacing_eq (actions l))

/-! ### Spaced actions (R85) -/

/-- What each cue gives, listed by index, is what each cue gives. -/
theorem flatMap_range_getElem? {α β : Type} (g : α → List β) (cs : List α) :
    ((List.range cs.length).flatMap fun i => (cs[i]?.map g).getD []) = cs.flatMap g := by
  induction cs with
  | nil => rfl
  | cons c cs ih =>
    rw [List.length_cons, List.range_succ_eq_map, List.flatMap_cons, List.flatMap_map,
      List.flatMap_cons]
    simpa using ih

theorem actionsOn_positions (cues : List Cue) (l : LaneId) :
    (actionsOn cues l).map (·.position) = actionPositions cues l := by
  have positions : actionPositions cues l =
      (cues.filter fun c => c.lane? == some l).flatMap fun c =>
        c.offset :: ((pulseWidth c).map fun w => c.offset + w).toList :=
    List.flatMap_congr fun c _ => by
      unfold pulseWidth
      cases c.action <;> rfl
  have listed (cs : List Cue) : (cs.filter fun c => c.lane? == some l).flatMap (fun c =>
      c.offset :: ((pulseWidth c).map fun w => c.offset + w).toList) =
        cs.flatMap fun c =>
          if c.lane? = some l then
            c.offset :: ((pulseWidth c).map fun w => c.offset + w).toList
          else [] := by
    induction cs with
    | nil => rfl
    | cons c cs ih => by_cases on : c.lane? = some l <;> simp [on, ih]
  rw [positions, listed, ← flatMap_range_getElem?, actionsOn, List.map_flatMap]
  refine List.flatMap_congr fun i _ => ?_
  cases cues[i]? with
  | none => rfl
  | some c =>
    by_cases on : c.lane? = some l
    · cases width : pulseWidth c <;> simp [on, width, Option.filter]
    · simp [on, Option.filter]

/-- Neighbours of ordered actions are far enough apart exactly where all of them are. -/
theorem neighbourPairs_spaced {sp : Nat} {as : List ActionAt} (ordered : as.Pairwise actsBefore) :
    (∀ x ∈ neighbourPairs as, sp ≤ x.2.2) ↔
      as.Pairwise fun a b => sp ≤ b.position - a.position + (a.position - b.position) := by
  induction as with
  | nil => simp [neighbourPairs]
  | cons a as ih =>
    obtain ⟨first, rest⟩ := List.pairwise_cons.1 ordered
    have ascends (b : ActionAt) (before : actsBefore a b) : a.position ≤ b.position := by
      rcases before with h | h <;> omega
    cases as with
    | nil => simp [neighbourPairs]
    | cons b bs =>
      rw [neighbourPairs_cons_cons, List.forall_mem_cons, ih rest, List.pairwise_cons (a := a)]
      have ab := ascends b (first b List.mem_cons_self)
      refine and_congr_left fun _ => ⟨fun apart c mem => ?_, fun apart => ?_⟩
      · have bc : b.position ≤ c.position := by
          rcases List.mem_cons.1 mem with rfl | mem
          · exact le_rfl
          · rcases (List.pairwise_cons.1 rest).1 c mem with h | h <;> omega
        dsimp only at apart
        omega
      · have := apart b List.mem_cons_self
        dsimp only
        omega

/-- The wraps are long enough exactly where every action of a frame is far enough from every action
of the next, for actions within the lengths. -/
theorem wrapPairs_spaced {sp : Nat} {lengths : List Nat} {as : List ActionAt}
    (ordered : as.Pairwise actsBefore)
    (within : ∀ f ∈ lengths, ∀ a ∈ as, a.position ≤ f) :
    (∀ x ∈ wrapPairs lengths as, sp ≤ x.2.2) ↔
      ∀ f ∈ lengths, ∀ a ∈ as, ∀ b ∈ as, b.position + sp ≤ f + a.position := by
  cases as with
  | nil => simp [wrapPairs]
  | cons a rest =>
    obtain ⟨z, last⟩ : ∃ z, (a :: rest).getLast? = some z := ⟨_, List.getLast?_eq_getLast_of_ne_nil (by simp)⟩
    have memZ : z ∈ a :: rest := List.mem_of_getLast? last
    have least (b : ActionAt) (mem : b ∈ a :: rest) : a.position ≤ b.position := by
      rcases List.mem_cons.1 mem with rfl | mem
      · exact le_rfl
      · rcases (List.pairwise_cons.1 ordered).1 b mem with h | h <;> omega
    have greatest (b : ActionAt) (mem : b ∈ a :: rest) : b.position ≤ z.position := by
      rw [← List.dropLast_append_getLast? z last] at ordered mem
      rcases List.mem_append.1 mem with mem | mem
      · rcases (List.pairwise_append.1 ordered).2.2 b mem z List.mem_cons_self with h | h <;> omega
      · rw [List.mem_singleton.1 mem]
    rw [wrapPairs_of_ends rfl last, List.forall_mem_map]
    refine forall₂_congr fun f mem => ⟨fun apart b memB c memC => ?_, fun apart => ?_⟩
    · have := least b memB
      have := greatest c memC
      have := within f mem z memZ
      dsimp only at apart
      omega
    · have := apart a List.mem_cons_self z memZ
      dsimp only
      omega

/-- On one lane no tested pair is too close exactly where the lane's actions are spaced (R85). -/
theorem closerThan_eq_nil_iff {sp : Nat} {lengths : List Nat} {cues : List Cue} {l : LaneId}
    {as : List ActionAt} (perm : as.Perm (actionsOn cues l)) (ordered : as.Pairwise actsBefore)
    (within : ∀ f ∈ lengths, ∀ a ∈ as, a.position ≤ f) :
    closerThan sp lengths as = [] ↔ spacedBy sp lengths (actionPositions cues l) := by
  have positions : (as.map (·.position)).Perm (actionPositions cues l) := by
    rw [← actionsOn_positions]
    exact perm.map _
  have none : closerThan sp lengths as = [] ↔ ∀ x ∈ testedPairs lengths as, sp ≤ x.2.2 := by
    simp [closerThan]
  rw [none, testedPairs_eq, List.forall_mem_append, neighbourPairs_spaced ordered,
    wrapPairs_spaced ordered within]
  refine and_congr ?_ ?_
  · rw [← positions.pairwise_iff (by intro x y; omega), List.pairwise_map]
  · simp only [← positions.mem_iff, List.forall_mem_map]

/-! ### The report (R81 to R87) -/

/-- A cue with a lane that fits a length acts within it. -/
theorem Cue.fits_within {c : Cue} {l : LaneId} {f : Nat} (lane : c.lane? = some l)
    (fits : c.fits f = true) : c.offset ≤ f ∧ ∀ w ∈ pulseWidth c, c.offset + w ≤ f := by
  unfold Cue.fits at fits
  unfold pulseWidth
  cases action : c.action with
  | note => simp [Cue.lane?, action] at lane
  | rise k | fall k => simpa [action] using le_of_lt (by simpa [action] using fits)
  | pulse k w =>
    have fits : c.offset < f ∧ c.offset + w ≤ f := by simpa [action] using fits
    simpa using ⟨fits.1.le, fits.2⟩

/-- Every action of a book whose cues fit lies within the lengths checked. -/
theorem State.actions_within {s : State} {cues : List Cue} {l : LaneId} {as : List ActionAt}
    (fit : ∀ d ∈ cues, s.fitsChecked d) (perm : as.Perm (actionsOn cues l)) :
    ∀ f ∈ s.lengthsChecked, ∀ a ∈ as, a.position ≤ f := by
  intro f length a mem
  obtain ⟨i, _, listed⟩ := List.mem_flatMap.1 (perm.mem_iff.1 mem)
  cases here : cues[i]? with
  | none => simp [here] at listed
  | some c =>
    by_cases lane : c.lane? = some l
    · obtain ⟨offset, width⟩ := Cue.fits_within lane
        ((fit c (List.mem_of_getElem? here)).resolve_left (by simp [lane]) f length)
      have mine : a ∈ (⟨c.offset, false, i⟩ : ActionAt) ::
          ((pulseWidth c).map fun w => (⟨c.offset + w, true, i⟩ : ActionAt)).toList := by
        simpa [here, lane, Option.filter] using listed
      rcases List.mem_cons.1 mine with rfl | atEnd
      · exact offset
      · obtain ⟨w, pulse, rfl⟩ := Option.map_eq_some_iff.1 (Option.mem_toList.1 atEnd)
        exact width w pulse
    · simp [here, lane, Option.filter] at listed

theorem State.compileReport_failing {s : State} {h : HostId} {cues : List Cue} {i : Nat} {c : Cue}
    {o : ReportOutcome} (here : cues[i]? = some c) (fails : s.cueFailure h c = some o)
    (pass : ∀ d ∈ cues.take i, s.cueFailure h d = none) :
    s.compileReport h cues = ⟨o, some i, none, some c.tag⟩ := by
  unfold State.compileReport
  rw [State.ownershipAndFit_first here fails pass 0]
  simp [failReport, here]

theorem State.compileReport_noteLimit {s : State} {h : HostId} {cues : List Cue} {i : Nat} {c : Cue}
    (pass : ∀ d ∈ cues, s.cueFailure h d = none) (here : cues[i]? = some c)
    (seventeenth : noteCheck cues = some i) :
    s.compileReport h cues = ⟨.noteLimit, some i, none, some c.tag⟩ := by
  unfold State.compileReport
  rw [State.ownershipAndFit_none pass, seventeenth]
  simp [failReport, here]

/-- With the first two checks passed, spacing decides. -/
theorem State.compileReport_spacing {s : State} {h : HostId} {cues : List Cue}
    (pass : ∀ d ∈ cues, s.cueFailure h d = none) (few : noteCheck cues = none) :
    s.compileReport h cues =
      match s.spacingCheck cues with
      | some x => ⟨.spacing, some x.1, some x.2, cues[x.1]?.map (·.tag)⟩
      | none => ⟨.ready, none, none, none⟩ := by
  unfold State.compileReport
  rw [State.ownershipAndFit_none pass, few]
  cases s.spacingCheck cues <;> rfl

/-- Settles O24: the three checks in order, each by the equation of the report it decides. -/
theorem compileChecks : Obligations.CompileChecks := by
  intro s h cues as actions
  refine ⟨fun i _ c here before => ?_, fun all => ?_⟩
  · have pass : ∀ d ∈ cues.take i, s.cueFailure h d = none := fun d mem =>
      State.cueFailure_none (before d mem).1 (before d mem).2
    exact ⟨fun foreign => State.compileReport_failing here (State.cueFailure_notHolder foreign) pass,
      fun own misfit =>
        State.compileReport_failing here (State.cueFailure_noFit own misfit) pass⟩
  · have pass : ∀ d ∈ cues, s.cueFailure h d = none := fun d mem =>
      State.cueFailure_none (all d mem).1 (all d mem).2
    refine ⟨fun i _ c here note before => State.compileReport_noteLimit pass here
      (noteCheck_some here note before), fun few => ?_⟩
    rw [State.compileReport_spacing pass (noteCheck_none few),
      s.spacingCheck_eq fun l => laneActions_unique (actions l).1 (actions l).2]
    have spaced : (allLanes.flatMap fun l =>
          closerThan (spacingOf (s.lane l).toLaneRecord) s.lengthsChecked (as l)) = [] ↔
        ∀ l : LaneId, spacedBy (spacingOf (s.lane l).toLaneRecord) s.lengthsChecked
          (actionPositions cues l) := by
      simp only [List.flatMap_eq_nil_iff, mem_allLanes, true_implies]
      exact forall_congr' fun l => closerThan_eq_nil_iff (actions l).1 (actions l).2
        (State.actions_within (fun d mem => (all d mem).2) (actions l).1)
    refine ⟨fun apart => ?_, fun close => ?_⟩
    · rw [spaced.2 apart]
      rfl
    · obtain ⟨x, rest, first⟩ := List.exists_cons_of_ne_nil (mt spaced.1 close)
      refine ⟨x, ?_, ?_⟩
      · exact congrArg List.head? first
      · rw [first]
        rfl

end Sys2Proof.Machine
end

section
/-!
PROOFS. The reactions to a boundary: what each of them keeps, and the boundary split at the one reaction
of the agreement unit (R3).
-/

namespace Sys2Proof.Machine

open Sys2Proof.Safety

/-! ### One reaction -/

/-- What the reactions of the other blocks leave as they find it: the timebase and the proposal. -/
structure Crossing.SameAgreement (c d : Crossing) : Prop where
  timebase : d.state.timebase = c.state.timebase
  proposal : d.state.proposal = c.state.proposal
  done : d.agreementDone = c.agreementDone

namespace Crossing

variable {c d e : Crossing} {r : BoundaryReaction}

theorem SameAgreement.refl (c : Crossing) : c.SameAgreement c := ⟨rfl, rfl, rfl⟩

theorem SameAgreement.trans (first : c.SameAgreement d) (second : d.SameAgreement e) :
    c.SameAgreement e :=
  ⟨second.timebase.trans first.timebase, second.proposal.trans first.proposal,
    second.done.trans first.done⟩

theorem run_sameAgreement (c : Crossing) (h : HostId) : c.SameAgreement (c.run h) := by
  simp only [Crossing.run]
  split
  · exact ⟨by simp, by simp, rfl⟩
  · split
    · exact ⟨by dsimp only; split <;> simp, by dsimp only; split <;> simp, rfl⟩
    · exact ⟨by simp, by simp, rfl⟩

/-- The reactions of the blocks other than the agreement unit leave the timebase and the proposal
record. -/
theorem react_sameAgreement (c : Crossing) (other : r ≠ .agreement) :
    c.SameAgreement (c.react r) := by
  cases r with
  | lane l => exact ⟨by simp [Crossing.react], by simp [Crossing.react], rfl⟩
  | check l => exact ⟨by simp [Crossing.react], by simp [Crossing.react], rfl⟩
  | load h => exact ⟨by simp [Crossing.react], by simp [Crossing.react], rfl⟩
  | run h => exact c.run_sameAgreement h
  | agreement => exact absurd rfl other

/-- Reactions after one another, an invariant of each of them kept. -/
theorem foldl_react_keeps {P : Crossing → Prop} {rs : List BoundaryReaction}
    (each : ∀ c, ∀ r ∈ rs, P c → P (c.react r)) (c : Crossing) (start : P c) :
    P (rs.foldl Crossing.react c) := by
  induction rs generalizing c with
  | nil => exact start
  | cons r rs ih =>
    exact ih (fun d q mem => each d q (List.mem_cons_of_mem _ mem)) _ (each c r List.mem_cons_self start)

theorem foldl_sameAgreement {rs : List BoundaryReaction} (none : .agreement ∉ rs) (c : Crossing) :
    c.SameAgreement (rs.foldl Crossing.react c) :=
  foldl_react_keeps (P := c.SameAgreement)
    (fun d _ mem same => same.trans (d.react_sameAgreement fun h => none (h ▸ mem))) c (.refl c)

end Crossing

/-! ### The boundary split at one reaction -/

/-- A boundary is the reactions before a given one, that one, and those after it, among which it does
not occur again. -/
theorem State.crossBoundary_split (s : State) (b : BoundaryIn) (r : BoundaryReaction)
    (listed : r ∈ everyBoundaryReaction) :
    ∃ before after : List BoundaryReaction,
      (s.setRbk b.rbk).boundaryOrder b.order = before ++ r :: after ∧
        r ∉ before ∧ r ∉ after ∧
          s.crossBoundary b =
            (after.foldl Crossing.react
              ((before.foldl Crossing.react ⟨s.setRbk b.rbk, false, []⟩).react r)).state := by
  obtain ⟨before, after, order⟩ :=
    List.append_of_mem (((s.setRbk b.rbk).mem_boundaryOrder b.order r).2 listed)
  have once := (s.setRbk b.rbk).nodup_boundaryOrder b.order
  rw [order, List.nodup_middle, List.nodup_cons, List.mem_append, not_or] at once
  refine ⟨before, after, order, once.1.1, once.1.2, ?_⟩
  rw [State.crossBoundary, order, List.foldl_append, List.foldl_cons]

theorem agreement_mem_everyBoundaryReaction : .agreement ∈ everyBoundaryReaction := by
  simp [everyBoundaryReaction]

/-- A boundary is what the agreement unit makes of a state with the timebase and the proposal that it
found, up to reactions that leave both. -/
theorem State.crossBoundary_agreement (s : State) (b : BoundaryIn) :
    ∃ (u : State) (left : List (HostId × BookId)),
      u.timebase = s.timebase ∧ u.proposal = s.proposal ∧
        (s.crossBoundary b).timebase = (u.agreementBoundary left).timebase ∧
        (s.crossBoundary b).proposal = (u.agreementBoundary left).proposal := by
  obtain ⟨before, after, _, none, noneAfter, cross⟩ :=
    s.crossBoundary_split b .agreement agreement_mem_everyBoundaryReaction
  have first := Crossing.foldl_sameAgreement none ⟨s.setRbk b.rbk, false, []⟩
  have last := Crossing.foldl_sameAgreement noneAfter
    ((before.foldl Crossing.react ⟨s.setRbk b.rbk, false, []⟩).react .agreement)
  exact ⟨_, _, first.timebase, first.proposal, by rw [cross]; exact last.timebase,
    by rw [cross]; exact last.proposal⟩

end Sys2Proof.Machine
end

section
/-!
PROOFS. The timebase and the proposal record: every event of the part keeps their laws (R1, R2, R8,
R146).
-/

namespace Sys2Proof.Machine

open Sys2Proof.Safety

variable {h : HostId} {s t : State}

theorem agreementKept_congr (timebase : t.timebase = s.timebase) (proposal : t.proposal = s.proposal)
    (law : agreementKept s) : agreementKept t := by
  simpa only [agreementKept, timebaseKept, proposalKept, timebase, proposal] using law

/-- The change to AGREED keeps the laws, whatever stood in the record before (R8, R154). -/
theorem agreementKept_recordAgreed {p : Proposal} (frame : frameLengthOk s.timebase.f)
    (position : s.timebase.position < s.timebase.f) (range : frameLengthOk p.newF)
    (noSelf : HostSet.has p.voters p.proposer = false) (window : 1 ≤ p.window ∧ p.window ≤ 64)
    (every : p.yes = p.voters) : agreementKept (s.recordAgreed p) := by
  refine ⟨⟨frame, position, ?_, ?_⟩, by simp [State.recordAgreed], ?_⟩
  · intro f next
    cases next
    exact range
  · intro q record
    cases record
    exact range
  · intro q record
    cases record
    exact ⟨noSelf, by simp [every], window.1, window.2, nofun, fun _ => ⟨every, rfl⟩⟩

theorem agreementKept_agree {p : Proposal} (frame : frameLengthOk s.timebase.f)
    (position : s.timebase.position < s.timebase.f) (range : frameLengthOk p.newF)
    (noSelf : HostSet.has p.voters p.proposer = false) (window : 1 ≤ p.window ∧ p.window ≤ 64)
    (every : p.yes = p.voters) : agreementKept (s.agree p) :=
  agreementKept_congr (by simp [State.agree]) (by simp [State.agree])
    (agreementKept_recordAgreed (s := s) frame position range noSelf window every)

/-- A record that ends without application leaves no next length (R9, R157). -/
theorem agreementKept_clearProposal (law : agreementKept s) : agreementKept s.clearProposal := by
  obtain ⟨⟨frame, position, next, range⟩, none, record⟩ := law
  unfold State.clearProposal
  split
  · rename_i p present
    obtain ⟨-, -, -, -, opened, -⟩ := record p present
    dsimp only
    split
    · exact ⟨⟨frame, position, by simp, by simp⟩, by simp, by simp⟩
    · rename_i open'
      have state : p.state = .opened := by
        cases state : p.state with
        | opened => rfl
        | agreed => exact absurd state open'
      have noNext := (opened state).1
      exact ⟨⟨frame, position, next, by simp⟩, fun _ => noNext, by simp⟩
  · exact ⟨⟨frame, position, next, range⟩, none, record⟩

theorem agreementKept_postAll (law : agreementKept s) (ps : Posts) : agreementKept (s.postAll ps) :=
  agreementKept_congr (by simp) (by simp) law

/-! ### Requests -/

theorem has_votersFor_self (s : State) (h : HostId) : HostSet.has (s.votersFor h) h = false := by
  simp [State.votersFor]

theorem HostSet.has_none (h : HostId) : HostSet.has HostSet.none h = false := by
  simp [HostSet.none]

theorem agreementKept_ownerEffect (law : agreementKept s) (effect : OwnerEffect h s t) :
    agreementKept t := by
  obtain ⟨⟨frame, position, next, range⟩, none, records⟩ := id law
  cases effect with
  | unchanged => exact law
  | granted => exact agreementKept_congr (by simp [State.grant_eq]) (by simp [State.grant_eq]) law
  | lane => exact agreementKept_congr (by simp) (by simp) law
  | host => exact agreementKept_congr rfl rfl law
  | compile => exact agreementKept_congr rfl rfl law
  | abort => exact agreementKept_congr rfl rfl law
  | propose f w noRecord length window voters ps =>
    refine agreementKept_postAll (s := s.setProposal (some _))
      ⟨⟨frame, position, next, ?_⟩, by simp, ?_⟩ ps
    · intro p record
      cases record
      exact length
    · intro p record
      cases record
      exact ⟨has_votersFor_self s h, by simp [HostSet.has_none], window.1, window.2,
        fun _ => ⟨none noRecord, voters.symm⟩, nofun⟩
  | proposeAgreed f w noRecord length window =>
    exact agreementKept_agree frame position length (HostSet.has_none h) window rfl
  | vote p record voter waiting left =>
    obtain ⟨noSelf, subset, least, most, opened, agreed⟩ := records p record
    refine ⟨⟨frame, position, next, ?_⟩, by simp, ?_⟩
    · intro q same
      cases same
      exact range p record
    · intro q same
      cases same
      refine ⟨noSelf, fun g yes => ?_, least, most, fun state => ⟨(opened state).1, left⟩,
        fun state => ?_⟩
      · rcases (by simpa [HostSet.has_add] using yes : g = h ∨ HostSet.has p.yes g = true) with
          rfl | old
        · exact voter
        · exact subset g old
      · rw [(agreed state).1, voter] at waiting
        cases waiting
  | voteAgreed p record every =>
    obtain ⟨noSelf, -, least, most, -, -⟩ := records p record
    exact agreementKept_agree frame position (range p record) noSelf ⟨least, most⟩ every
  | ended p o record => exact agreementKept_postAll (agreementKept_clearProposal law) _

/-! ### Resets -/

theorem agreementKept_agreementReset (law : agreementKept s) (h : HostId) :
    agreementKept (s.agreementReset h) := by
  obtain ⟨⟨frame, position, next, range⟩, none, records⟩ := id law
  unfold State.agreementReset
  split
  · exact law
  · rename_i p record
    obtain ⟨noSelf, subset, least, most, opened, agreed⟩ := records p record
    split
    · exact agreementKept_postAll (agreementKept_clearProposal law) _
    · rename_i proposer
      have noSelf' : HostSet.has (HostSet.remove p.voters h) p.proposer = false := by
        simp [HostSet.has_remove, noSelf]
      split
      · dsimp only
        split
        · rename_i every
          exact agreementKept_agree frame position (range p record) noSelf' ⟨least, most⟩ every.2
        · rename_i notEvery
          refine ⟨⟨frame, position, next, ?_⟩, by simp, ?_⟩
          · intro q same
            cases same
            exact range p record
          · intro q same
            cases same
            refine ⟨noSelf', fun g yes => ?_, least, most, fun state => ⟨(opened state).1, fun same =>
              notEvery ⟨state, same⟩⟩, fun state => ?_⟩
            · have yes : g ≠ h ∧ HostSet.has p.yes g = true := by simpa [HostSet.has_remove] using yes
              simpa [HostSet.has_remove, yes.1] using subset g yes.2
            · exact ⟨by simp [(agreed state).1], (agreed state).2⟩
      · exact law

theorem State.lanesReset_keeps {P : State → Prop} (step : ∀ s l f, P s → P (s.reactLane l f))
    (s : State) (h : HostId) (start : P s) : P (s.lanesReset h) :=
  foldl_keeps _ P (fun _ _ law => step _ _ _ law) _ _ start

theorem agreementKept_lanesReset (law : agreementKept s) (h : HostId) :
    agreementKept (s.lanesReset h) :=
  State.lanesReset_keeps (fun _ _ _ law => agreementKept_congr (by simp) (by simp) law) s h law

theorem agreementKept_resetBlocks (law : agreementKept s) (h : HostId) (first : Bool) :
    agreementKept (s.resetBlocks h first) := by
  have plain : agreementKept ((s.setHost h .initial).dropJob h) := agreementKept_congr rfl rfl law
  unfold State.resetBlocks
  dsimp only
  split
  · exact agreementKept_lanesReset (agreementKept_agreementReset plain h) h
  · exact agreementKept_agreementReset (agreementKept_lanesReset plain h) h

/-! ### Ticks -/

theorem HostSet.has_withoutLaneless_voters (s : State) (p : Proposal) (g : HostId) :
    HostSet.has (s.withoutLaneless p).voters g = (HostSet.has p.voters g && s.holdsLane g) := by
  simp [State.withoutLaneless]

theorem HostSet.has_withoutLaneless_yes (s : State) (p : Proposal) (g : HostId) :
    HostSet.has (s.withoutLaneless p).yes g = (HostSet.has p.yes g && s.holdsLane g) := by
  simp [State.withoutLaneless]

/-- Between the boundary and the agreement unit's reaction to it the next length has been taken, while
an AGREED record still stands. -/
def recordWaits (s : State) : Prop :=
  frameLengthOk s.timebase.f ∧ s.timebase.position < s.timebase.f ∧ s.timebase.nextLength = none ∧
    ∀ p ∈ s.proposal, frameLengthOk p.newF ∧
      recordOk (if p.state = .agreed then some p.newF else none) p

theorem agreementKept_proposalBoundary (waits : recordWaits s) :
    agreementKept s.proposalBoundary.1 := by
  obtain ⟨frame, position, next, records⟩ := waits
  have noNext : ∀ f ∈ s.timebase.nextLength, frameLengthOk f := by simp [next]
  unfold State.proposalBoundary
  split
  · rename_i none
    exact ⟨⟨frame, position, noNext, by simp [none]⟩, fun _ => next, by simp [none]⟩
  · rename_i p record
    obtain ⟨range, noSelf, subset, least, most, opened, -⟩ := records p record
    split
    · exact agreementKept_postAll
        (⟨⟨frame, position, noNext, by simp⟩, fun _ => next, by simp⟩ :
          agreementKept (s.setProposal none)) _
    · rename_i state
      have noSelf' : HostSet.has (s.withoutLaneless p).voters p.proposer = false := by
        simp [HostSet.has_withoutLaneless_voters, noSelf]
      dsimp only
      split
      · rename_i every
        exact agreementKept_recordAgreed frame position range noSelf' ⟨least, most⟩ every
      · rename_i notEvery
        have stays (w : Nat) (window : 1 ≤ w ∧ w ≤ 64) :
            agreementKept (s.setProposal (some { s.withoutLaneless p with window := w })) := by
          refine ⟨⟨frame, position, noNext, ?_⟩, by simp, ?_⟩
          · intro q same
            cases same
            exact range
          · intro q same
            cases same
            refine ⟨noSelf', fun g yes => ?_, window.1, window.2, fun _ => ⟨next, notEvery⟩, ?_⟩
            · rw [HostSet.has_withoutLaneless_yes, Bool.and_eq_true] at yes
              rw [HostSet.has_withoutLaneless_voters, subset g yes.1, yes.2]
              rfl
            · intro agreed
              exact absurd (state.symm.trans agreed) (by decide)
        split
        · exact agreementKept_postAll (agreementKept_clearProposal (stays p.window ⟨least, most⟩)) _
        · rename_i wide
          have wide : ¬ p.window ≤ 1 := wide
          exact stays (p.window - 1) ⟨by omega, by omega⟩

@[simp] theorem State.enterFrame_timebase (s : State) :
    s.enterFrame.timebase = s.timebase.boundary := by
  simp [State.enterFrame, State.frameEnd, State.mapLanes]

@[simp] theorem State.enterFrame_proposal (s : State) : s.enterFrame.proposal = s.proposal := by
  simp [State.enterFrame, State.frameEnd, State.mapLanes]

theorem recordWaits_enterFrame (law : agreementKept s) : recordWaits s.enterFrame := by
  obtain ⟨⟨frame, -, next, range⟩, none, records⟩ := law
  have length : frameLengthOk (s.timebase.nextLength.getD s.timebase.f) := by
    cases taken : s.timebase.nextLength with
    | none => exact frame
    | some f => exact next f taken
  have positive : 0 < s.timebase.nextLength.getD s.timebase.f := by
    have least := length.1
    omega
  unfold recordWaits
  rw [State.enterFrame_timebase, State.enterFrame_proposal]
  refine ⟨length, positive, rfl, ?_⟩
  intro p record
  obtain ⟨noSelf, subset, least, most, opened, agreed⟩ := records p record
  refine ⟨range p record, noSelf, subset, least, most, fun state => ⟨?_, (opened state).2⟩,
    fun state => ⟨(agreed state).1, if_pos state⟩⟩
  rw [state]
  rfl

theorem agreementKept_boundaryTick (law : agreementKept s) (b : BoundaryIn) :
    agreementKept (s.boundaryTick b) := by
  obtain ⟨u, left, timebase, proposal, timebaseAfter, proposalAfter⟩ :=
    s.enterFrame.crossBoundary_agreement b
  have waits : recordWaits u := by
    simpa only [recordWaits, timebase, proposal] using recordWaits_enterFrame law
  refine agreementKept_congr (s := u.proposalBoundary.1) ?_ ?_ (agreementKept_proposalBoundary waits)
  · simp [State.boundaryTick, timebaseAfter, State.agreementBoundary]
  · simp [State.boundaryTick, proposalAfter, State.agreementBoundary]

theorem agreementKept_plainTick (law : agreementKept s) (next : s.atArrival = true) (i : ArrivalIn) :
    agreementKept (s.plainTick i) := by
  obtain ⟨⟨frame, -, length, range⟩, record⟩ := law
  have position := (s.atArrival_iff.1 next).2
  refine agreementKept_congr
    (s := s.setTimebase { s.timebase with position := s.timebase.position + 1, fmark := false })
    (by simp [State.plainTick, State.mapLanes]) (by simp [State.plainTick, State.mapLanes])
    ⟨⟨frame, position, length, range⟩, record⟩

end Sys2Proof.Machine
end

section
/-!
PROOFS. Laws of the blocks, which do not speak of the ports or the pins: what keeps one through every
event of the part.
-/

namespace Sys2Proof.Machine

open Sys2Proof.Safety

/-- What the events of the part must keep of a law that speaks of the blocks alone. -/
structure BlockLaw (P : State → Prop) : Prop where
  congr : ∀ {s t : State}, sameBlocks t s → P s → P t
  effect : ∀ {s t : State} {h : HostId}, P s → OwnerEffect h s t → P t
  arrival : ∀ {s : State} (i : ArrivalIn), P s → s.atArrival = true → P (s.plainTick i)
  boundary : ∀ {s : State} (b : BoundaryIn), P s → s.atBoundary = true → P (s.boundaryTick b)
  completion : ∀ {s : State} {j : Job} {js : List Job}, P s → s.jobs = j :: js → P (s.completeJob j)
  sessionReset : ∀ {s : State} (h : HostId) (first : Bool), P s → P (s.resetBlocks h first)
  powerOn : P State.reset

variable {P : State → Prop} {s : State}

theorem BlockLaw.setPort (keeps : BlockLaw P) (law : P s) (h : HostId) (p : Port) :
    P (s.setPort h p) := keeps.congr (by exact ⟨rfl, rfl, rfl, rfl, rfl⟩) law

theorem BlockLaw.portReset (keeps : BlockLaw P) (law : P s) (h : HostId) (first : Bool) :
    P (s.portReset h first) := keeps.sessionReset h first (keeps.setPort law h _)

theorem BlockLaw.endTransaction (keeps : BlockLaw P) (law : P s) (h : HostId) (bytes : List Byte)
    (first : Bool) : P (s.endTransaction h bytes first) := by
  unfold State.endTransaction
  dsimp only
  split
  · exact law
  · exact keeps.setPort law h _
  · exact keeps.setPort law h _
  · split
    · exact keeps.setPort law h _
    · split
      · exact keeps.setPort law h _
      · exact keeps.setPort law h _
      · exact keeps.portReset (keeps.setPort law h _) h first

theorem BlockLaw.transaction (keeps : BlockLaw P) (law : P s) (h : HostId) (part : TxnPart)
    (bytes : List Byte) (first : Bool) : P (s.transaction h part bytes first) := by
  cases part with
  | select => exact keeps.setPort law h _
  | control => exact keeps.setPort law h _
  | finish => exact keeps.endTransaction (keeps.setPort law h _) h bytes first

theorem BlockLaw.event (keeps : BlockLaw P) {t : State} (event : Event s t) (law : P s) : P t := by
  cases event with
  | idle => exact law
  | request h q o r u next effect =>
    have taken : P (s.popRequest h) := keeps.congr (by exact ⟨rfl, rfl, rfl, rfl, rfl⟩) law
    exact keeps.congr (by exact ⟨rfl, rfl, rfl, rfl, rfl⟩) (keeps.effect taken effect)
  | arrival i next => exact keeps.arrival i law next
  | boundary b next => exact keeps.boundary b law next
  | completion j js first => exact keeps.completion law first
  | transaction h part bytes first => exact keeps.transaction law h part bytes first
  | prstFall h link first idle => exact keeps.portReset (keeps.setPort law h _) h first
  | prstFallOff h link idle => exact keeps.setPort law h _
  | prstRise h held => exact keeps.setPort law h _
  | powerOn sent => exact keeps.congr (by exact ⟨rfl, rfl, rfl, rfl, rfl⟩) keeps.powerOn
  | release => exact keeps.congr (by exact ⟨rfl, rfl, rfl, rfl, rfl⟩) law

theorem BlockLaw.step (keeps : BlockLaw P) {t : State} (law : P s) (run : step s = .next t) : P t :=
  step_keeps (fun _ _ => keeps.event) (fun _ _ => keeps.congr (by exact ⟨rfl, rfl, rfl, rfl, rfl⟩)) law run

/-! ### O56 -/

theorem agreementKept_reset : agreementKept State.reset := by decide

theorem agreementKept_blockLaw : BlockLaw agreementKept where
  congr same law := agreementKept_congr same.1 same.2.2.2.2 law
  effect := agreementKept_ownerEffect
  arrival i law next := agreementKept_plainTick law next i
  boundary b law _ := agreementKept_boundaryTick law b
  completion law _ :=
    agreementKept_congr (by simp [State.completeJob]; rfl) (by simp [State.completeJob]; rfl) law
  sessionReset h first law := agreementKept_resetBlocks law h first
  powerOn := agreementKept_reset

/-- Settles O56: the agreement unit reacts to a boundary exactly once, and between the boundary and
that reaction only the next length is missing from the laws. -/
theorem stepKeepsAgreement : Obligations.StepKeepsAgreement :=
  fun _ _ law run => agreementKept_blockLaw.step law run

end Sys2Proof.Machine
end

section
/-!
PROOFS. Power-on reset and the moments of a transaction on one port (R161 to R166, R171, R173).
-/

namespace Sys2Proof.Machine

open Sys2Proof.Safety

/-! ### Power-on reset -/

theorem State.lane_reset (l : LaneId) : State.reset.lane l = Lane.powerOn := by
  simp [State.reset, State.lane]

theorem State.host_reset (h : HostId) : State.reset.host h = .initial := by
  simp [State.reset, State.host]

theorem portsKept_reset : portsKept State.reset := by decide

theorem lanesKept_reset : lanesKept State.reset := by
  simp only [lanesKept, ownershipKept, faultsKept, checksKept, State.lane_reset]
  decide

theorem levelsKept_reset : levelsKept State.reset := by
  simp only [levelsKept, State.lane_reset]
  decide

theorem cuesKept_reset : cuesKept State.reset := by decide

theorem booksKept_reset : booksKept State.reset := by decide

theorem fitsKept_reset : fitsKept State.reset := by
  intro h b _ state
  rw [State.book, State.host_reset] at state
  cases b <;> cases state <;> contradiction

/-- Settles O54. -/
theorem resetKeepsLaws : Obligations.ResetKeepsLaws :=
  ⟨portsKept_reset, agreementKept_reset, lanesKept_reset, levelsKept_reset, cuesKept_reset,
    booksKept_reset, fitsKept_reset⟩

/-- What a port shows of ATTN while RST_n is low. -/
theorem State.attn_of_rstN_low {s : State} (low : s.rstN = false) (h : HostId) :
    s.attn h = false := by
  simp [State.attn, low]

/-- Settles O51. -/
theorem powerOnReset : Obligations.PowerOnReset := by
  intro sent s
  refine ⟨⟨_, rfl, rfl, rfl, rfl, rfl, rfl, State.lane_reset, State.host_reset, fun h => ?_⟩, rfl⟩
  have port : State.port
      { State.reset with
        rstN := false, rbk := s.rbk
        ports := Vector.ofFn fun h => (s.port h).poweredOn (sent.get h)
        draws := s.draws, pending := s.pending } h = (s.port h).poweredOn (sent.get h) := by
    simp [State.port]
  rw [port]
  exact ⟨rfl, rfl, rfl, rfl, rfl, rfl, rfl, Link.abandon_abandons _ _, State.attn_of_rstN_low rfl h⟩

/-! ### The two readings of a control byte (R162, R163) -/

theorem and_three_eq_iff (b : Byte) (n : Nat) (small : n < 4) :
    b &&& 3 = BitVec.ofNat 8 n ↔ b.toNat % 4 = n := by
  have low : (b &&& 3).toNat = b.toNat % 4 := by
    rw [BitVec.toNat_and]
    exact Nat.and_two_pow_sub_one_eq_mod b.toNat 2
  rw [← BitVec.toNat_inj, low, BitVec.toNat_ofNat]
  omega

theorem controlKind_eq_kindOf (b0 b1 : Byte) : controlKind b0 b1 = kindOf b0 b1 := by
  unfold controlKind kindOf controlValid
  have one : b0 &&& 3 = 1 ↔ b0.toNat % 4 = 1 := and_three_eq_iff b0 1 (by decide)
  have two : b0 &&& 3 = 2 ↔ b0.toNat % 4 = 2 := and_three_eq_iff b0 2 (by decide)
  simp only [beq_iff_eq, one, two]

theorem ite_controlAck_eq_ackedBy (b0 b1 : Byte) (p : Port) :
    (if controlAck b0 b1 then p.acknowledge else p) = ackedBy b0 b1 p := by
  simp [controlAck, controlValid, ackedBy, Port.acknowledge_eq]

theorem Port.head_fst (p : Port) : p.head.1 = offers p := by
  unfold Port.head offers
  split <;> simp_all

theorem ackedBy_link (b0 b1 : Byte) (p : Port) (x : Link) :
    ackedBy b0 b1 { p with link := x } = { ackedBy b0 b1 p with link := x } := by
  unfold ackedBy acked
  split
  · dsimp only
    split <;> rfl
  · rfl

/-- The control bytes of a transaction that has fixed the first two bytes of its return frame. -/
theorem Port.control_selected {p : Port} {r0 r1 : Byte} (link : p.link = .selected r0 r1)
    (b0 b1 : Byte) :
    p.control b0 b1 =
      { ackedBy b0 b1 p with
        link := .offering (kindOf b0 b1) (returnFrame r0 r1 (ackedBy b0 b1 p).head)
          (offers (ackedBy b0 b1 p)) } := by
  simp only [Port.control, link, ite_controlAck_eq_ackedBy, controlKind_eq_kindOf, Port.head_fst]

/-! ### The moments of a transaction (R161 to R163, R171) -/

theorem Port.select_of_free {p : Port} (held : p.held = false) (link : p.link = .idle) :
    p.select true = { p with link := .selected p.admission.code (BitVec.ofNat 8 p.flags) } := by
  simp [Port.select, held, link]

theorem Port.select_of_taken {p : Port} (rstN : Bool) (link : takenUp p.link = true) :
    p.select rstN = p := by
  unfold Port.select
  cases state : p.link <;> simp_all [takenUp]

/-- A port held in reset, or a part held in reset, takes no transaction. -/
theorem Port.select_of_held {p : Port} {rstN : Bool} (held : p.held = true ∨ rstN = false)
    (idle : takenUp p.link = false) : p.select rstN = { p with link := .lost (shownOf p.link) } := by
  have closed : (rstN && !p.held) = false := by
    rcases held with held | low
    · simp [held]
    · simp [low]
  unfold Port.select
  cases state : p.link with
  | idle => simp [closed, shownOf]
  | lost bs => rw [← state]; simp [shownOf, state]; rw [← state]
  | selected => simp [takenUp, state] at idle
  | offering => simp [takenUp, state] at idle

theorem Port.control_of_lost {p : Port} {bs : List Byte} (link : p.link = .lost bs) (b0 b1 : Byte) :
    p.control b0 b1 = p := by
  simp [Port.control, link]

theorem Port.catchUp_of_held {p : Port} {rstN : Bool} (held : p.held = true ∨ rstN = false)
    (idle : takenUp p.link = false) (bytes : List Byte) :
    p.catchUp rstN bytes = { p with link := .lost (shownOf p.link) } := by
  unfold Port.catchUp
  rw [Port.select_of_held held idle]
  split
  · exact Port.control_of_lost rfl _ _
  · rfl

theorem Port.catchUp_of_two {bytes : List Byte} (two : 2 ≤ bytes.length) (rstN : Bool) (p : Port) :
    p.catchUp rstN bytes = (p.select rstN).control (bytes.getD 0 0) (bytes.getD 1 0) := by
  match bytes, two with
  | _ :: _ :: _, _ => rfl

theorem Port.catchUp_of_short {bytes : List Byte} (short : bytes.length < 2) (rstN : Bool) (p : Port) :
    p.catchUp rstN bytes = p.select rstN := by
  match bytes, short with
  | [], _ => rfl
  | [_], _ => rfl

/-- The port once its control bytes are in, whichever moments have been taken before. -/
theorem Port.control_chosen {s : State} {h : HostId} {b0 b1 : Byte} {m : Chosen}
    (choice : chosen s h b0 b1 = some m) :
    ((s.port h).select s.rstN).control b0 b1 =
      { m.port with link := .offering m.kind m.frame m.offered } := by
  unfold chosen at choice
  dsimp only at choice
  split at choice
  · rename_i idle
    split at choice
    · rename_i free
      cases choice
      obtain ⟨rstN, held⟩ := Bool.and_eq_true_iff.1 free
      rw [rstN, Port.select_of_free (by simpa using held) idle, Port.control_selected rfl, ackedBy_link]
      rfl
    · cases choice
  · rename_i r0 r1 link
    cases choice
    rw [Port.select_of_taken _ (by rw [link]; rfl), Port.control_selected link]
  · rename_i k f n link
    cases choice
    rw [Port.select_of_taken _ (by rw [link]; rfl)]
    simp only [Port.control, link]
    rw [← link]
  · cases choice

/-! ### One port of the state -/

theorem onlyPort_setPort (s : State) (h : HostId) (p : Port) : onlyPort s (s.setPort h p) h p :=
  ⟨⟨rfl, rfl, rfl, rfl⟩, ⟨rfl, rfl, rfl, rfl, rfl⟩, rfl, fun g => s.port_setPort h g p⟩

variable {s : State} {h : HostId} {part : TxnPart} {bytes : List Byte} {first : Bool}

/-- The moments before the end of a transaction, whichever command they belong to. -/
theorem momentsOf_transaction {c : TxnPart → Instr}
    (run : ∀ part, exec (c part) s = .next (s.transaction h part bytes first)) :
    momentsOf c s h bytes := by
  refine ⟨fun free => ?_, fun two _ m choice => ?_⟩
  · obtain ⟨rstN, held, link⟩ := free
    refine ⟨_, run .select, ?_⟩
    rw [State.transaction, rstN, Port.select_of_free held link]
    exact onlyPort_setPort s h _
  · refine ⟨_, run .control, ?_⟩
    rw [State.transaction, Port.catchUp_of_two two, Port.control_chosen choice]
    exact onlyPort_setPort s h _

/-- The end of a transaction whose control bytes are in. -/
theorem State.finish_chosen {m : Chosen} (choice : chosen s h (bytes.getD 0 0) (bytes.getD 1 0) = some m)
    (taken : 2 ≤ bytes.length ∨ byte1Taken (s.port h).link = true) :
    s.transaction h .finish bytes first =
      (s.setPort h { m.port with link := .offering m.kind m.frame m.offered }).endTransaction h bytes
        first := by
  have caught : (s.port h).catchUp s.rstN bytes =
      ((s.port h).select s.rstN).control (bytes.getD 0 0) (bytes.getD 1 0) := by
    rcases Nat.lt_or_ge bytes.length 2 with short | two
    · have offering := taken.resolve_left (by omega)
      have takenUp : takenUp (s.port h).link = true := by
        cases link : (s.port h).link <;> simp_all [byte1Taken, Safety.takenUp]
      rw [Port.catchUp_of_short short, Port.select_of_taken _ takenUp]
      cases link : (s.port h).link <;> simp_all [byte1Taken, Port.control]
    · exact Port.catchUp_of_two two _ _
  rw [State.transaction, caught, Port.control_chosen choice]

/-! ### O50 -/

theorem State.select_of_held (held : (s.port h).held = true ∨ s.rstN = false)
    (idle : takenUp (s.port h).link = false) (early : part ≠ .finish) :
    onlyPort s (s.transaction h part bytes first) h
      { s.port h with link := .lost (shownOf (s.port h).link) } := by
  cases part with
  | select =>
    rw [State.transaction, Port.select_of_held held idle]
    exact onlyPort_setPort s h _
  | control =>
    rw [State.transaction, Port.catchUp_of_held held idle]
    exact onlyPort_setPort s h _
  | finish => exact absurd rfl early

theorem State.finish_of_held (held : (s.port h).held = true ∨ s.rstN = false)
    (idle : takenUp (s.port h).link = false) :
    onlyPort s (s.transaction h .finish bytes first) h
      { s.port h with
        link := .idle
        sdo := shownOf (s.port h).link ++
          List.replicate (bytes.length - (shownOf (s.port h).link).length) 0xFF } := by
  simp only [State.transaction, Port.catchUp_of_held held idle, State.endTransaction,
    State.port_setPort_self, State.setPort_setPort, padTo]
  exact onlyPort_setPort s h _

theorem exec_framesOf {part : TxnPart} {c : Instr} (mem : c ∈ framesOf h bytes first part) :
    ∃ order, exec c s = .next (s.transaction h part bytes order) := by
  simp only [framesOf, List.mem_cons, List.not_mem_nil, or_false] at mem
  rcases mem with rfl | rfl | rfl | rfl <;> exact ⟨_, rfl⟩

theorem exec_prstNRise (held : (s.port h).held = true) :
    exec (.prstNRise h) s = .next (s.setPort h { (s.port h).cleared with held := false }) := by
  change execPrstNRise h s = _
  simp [execPrstNRise, held]

/-- Settles O50: a port held in reset takes up no transaction, so that each of its moments leaves the
link lost. -/
theorem heldPort : Obligations.HeldPort := by
  intro h bytes control first n s
  refine ⟨fun held idle => ⟨fun c mem => ?_, fun c mem => ?_⟩, fun held => ⟨?_, ?_⟩⟩
  · rcases List.mem_append.1 mem with mem | ack
    · rcases List.mem_append.1 mem with select | early
      · obtain ⟨order, run⟩ := exec_framesOf select
        exact ⟨_, run, State.select_of_held held idle nofun⟩
      · obtain ⟨order, run⟩ := exec_framesOf early
        exact ⟨_, run, State.select_of_held held idle nofun⟩
    · rw [List.mem_singleton.1 ack]
      exact ⟨_, rfl, State.select_of_held held idle nofun⟩
  · obtain ⟨order, run⟩ := exec_framesOf mem
    exact ⟨_, run, State.finish_of_held held idle⟩
  · exact if_pos held
  · exact ⟨_, exec_prstNRise held, onlyPort_setPort s h _⟩

/-! ### O45 to O48 -/

/-- The end of a complete transaction whose control bytes are in, by the kind of its frame. -/
theorem State.finish_complete {m : Chosen} (complete : 56 ≤ bytes.length)
    (choice : chosen s h (bytes.getD 0 0) (bytes.getD 1 0) = some m) (notReset : m.kind ≠ .portReset) :
    s.transaction h .finish bytes first =
      s.setPort h
        (if m.kind = .request then (m.port.endComplete m.frame m.offered bytes).receive bytes
        else { m.port.endComplete m.frame m.offered bytes with admission := .none }) := by
  rw [State.finish_chosen choice (.inl (by omega))]
  have long : ¬ bytes.length < frameBytes := not_lt.2 complete
  cases kind : m.kind with
  | null => simp [State.endTransaction, long, Port.endComplete]
  | request => simp [State.endTransaction, long, Port.endComplete]
  | portReset => exact absurd kind notReset

theorem crcWrong_iff (bytes : List Byte) :
    crcWrong bytes = true ↔
      crc8 ((bytes.drop 2).take (3 + (bytes.getD 4 0).toNat)) ≠
        bytes.getD (5 + (bytes.getD 4 0).toNat) 0 := by
  simp [crcWrong, frameLengthByte]

/-- Settles O45, each row of R166's table by the test that comes before it. -/
theorem requestFrameAdmission : Obligations.RequestFrameAdmission := by
  intro h bytes s
  refine ⟨momentsOf_transaction (first := false) fun _ => rfl, fun complete m choice kind => ?_⟩
  have finished : exec (.requestFrame h .finish bytes) s =
      .next (s.setPort h ((m.port.endComplete m.frame m.offered bytes).receive bytes)) := by
    have done := State.finish_complete (first := false) complete choice (by simp [kind])
    rw [if_pos kind] at done
    exact congrArg _ done
  have ends (a : Admission)
      (row : (m.port.endComplete m.frame m.offered bytes).admissionOf bytes = a) :
      ∃ t : State, exec (.requestFrame h .finish bytes) s = .next t ∧
        onlyPort s t h
          { m.port with
            inbound := if a = .accepted then m.port.inbound ++ [requestOfFrame bytes]
              else m.port.inbound
            admission := a, ack := m.offered, link := .idle
            sdo := m.frame ++ List.replicate (bytes.length - m.frame.length) 0xFF } := by
    refine ⟨_, finished, ?_⟩
    subst row
    exact onlyPort_setPort s h _
  have crc := crcWrong_iff bytes
  refine ⟨fun long => ends .length ?_, fun short wrong => ends .crc ?_,
    fun short right full => ends .full ?_, fun short right room => ends .accepted ?_⟩
  · exact if_pos long
  · rw [Port.admissionOf, if_neg (by simpa [maxDeclared, frameLengthByte] using short),
      if_pos (crc.2 wrong)]
  · rw [Port.admissionOf, if_neg (by simpa [maxDeclared, frameLengthByte] using short),
      if_neg (by simpa [crc] using right)]
    exact if_pos full
  · rw [Port.admissionOf, if_neg (by simpa [maxDeclared, frameLengthByte] using short),
      if_neg (by simpa [crc] using right)]
    exact if_neg (not_le.2 room)

/-- Settles O46. -/
theorem nullFrame : Obligations.NullFrame := by
  intro h bytes s
  refine ⟨momentsOf_transaction (first := false) fun _ => rfl, fun complete m choice kind => ?_⟩
  refine ⟨_, rfl, ?_⟩
  rw [State.finish_complete complete choice (by simp [kind]), if_neg (by simp [kind])]
  exact onlyPort_setPort s h _

/-- Settles O47. -/
theorem shortTransaction : Obligations.ShortTransaction := by
  intro h bytes s short
  refine ⟨momentsOf_transaction (first := false) fun _ => rfl, fun few free => ?_,
    fun few r fixed => ?_, fun taken m choice => ?_⟩
  · obtain ⟨rstN, held, link⟩ := free
    refine ⟨_, rfl, ?_⟩
    simp only [State.transaction, Port.catchUp_of_short few, rstN, Port.select_of_free held link,
      State.endTransaction, State.port_setPort_self, State.setPort_setPort, Port.endShort]
    rw [← link]
    exact onlyPort_setPort s h _
  · obtain ⟨r0, r1⟩ := r
    have link : (s.port h).link = .selected r0 r1 := by
      cases link : (s.port h).link <;> simp_all [fixedBytes]
    refine ⟨_, rfl, ?_⟩
    simp only [State.transaction, Port.catchUp_of_short few,
      Port.select_of_taken s.rstN (p := s.port h) (by rw [link]; rfl), State.endTransaction,
      State.port_setPort_self, State.setPort_setPort, Port.endShort, link]
    exact onlyPort_setPort s h _
  · refine ⟨_, rfl, ?_⟩
    rw [State.finish_chosen choice taken]
    simp only [State.endTransaction, State.port_setPort_self, State.setPort_setPort, Port.endShort,
      frameBytes, if_pos short]
    exact onlyPort_setPort s h _

/-- The port once the ACK of a control byte has been honoured. -/
theorem ackedBy_of_ack {control : Byte} (ack : control.getLsbD 7 = true) (p : Port) :
    ackedBy control (~~~control) p = acked p := if_pos ⟨rfl, ack⟩

theorem chosen_of_free (free : portFree s h) (b0 b1 : Byte) :
    chosen s h b0 b1 =
      some ⟨ackedBy b0 b1 (s.port h), kindOf b0 b1, returned (s.port h) (ackedBy b0 b1 (s.port h)),
        offers (ackedBy b0 b1 (s.port h))⟩ := by
  obtain ⟨rstN, held, link⟩ := free
  simp [chosen, link, rstN, held]

theorem chosen_of_selected {r0 r1 : Byte} (link : (s.port h).link = .selected r0 r1) (b0 b1 : Byte) :
    chosen s h b0 b1 =
      some ⟨ackedBy b0 b1 (s.port h), kindOf b0 b1,
        returnFrame r0 r1 (ackedBy b0 b1 (s.port h)).head, offers (ackedBy b0 b1 (s.port h))⟩ := by
  simp [chosen, link]

/-- Settles O48. -/
theorem ackRemovesMessage : Obligations.AckRemovesMessage := by
  intro h control r0 r1 s ack
  have moment {m : Chosen} (choice : chosen s h control (~~~control) = some m) :
      ∃ t : State, exec (.ack h control) s = .next t ∧
        onlyPort s t h { m.port with link := .offering m.kind m.frame m.offered } := by
    refine ⟨_, rfl, ?_⟩
    have taken := Port.control_chosen choice
    rw [State.transaction, Port.catchUp, taken]
    exact onlyPort_setPort s h _
  constructor
  · intro free
    have choice := chosen_of_free free control (~~~control)
    rw [ackedBy_of_ack ack] at choice
    exact moment choice
  · intro link
    have choice := chosen_of_selected link control (~~~control)
    rw [ackedBy_of_ack ack] at choice
    exact moment choice

end Sys2Proof.Machine
end

section
/-!
PROOFS. The bytes a port shows: codes, fields and records as the tables of 10.7 lay them out (R161,
R165, R167).
-/

namespace Sys2Proof.Machine

open Sys2Proof.Safety

/-! ### Numbers and codes -/

theorem be8_eq (n : Nat) : be8 n = [byteOf n] := rfl

theorem be16_eq (n : Nat) : be16 n = bytes2 n := rfl

theorem be32_eq (n : Nat) : be32 n = bytes4 n := by
  have top : n / 16777216 = n / 65536 / 256 := by rw [Nat.div_div_eq_div_mul]
  simp [be32, be24, be16, bytes4, bytes2, byteOf, top]

theorem be24_eq (n : Nat) : be24 n = (bytes4 n).drop 1 := rfl

theorem bytes2_length (n : Nat) : (bytes2 n).length = 2 := rfl

theorem bytes4_length (n : Nat) : (bytes4 n).length = 4 := rfl

theorem LaneState.code_eq (x : LaneState) : x.code = laneStateTable.idxOf x := by cases x <;> rfl

theorem BookState.code_eq (x : BookState) : x.code = bookStateTable.idxOf x := by cases x <;> rfl

theorem ReportOutcome.code_eq (x : ReportOutcome) : x.code = reportTable.idxOf (some x) := by
  cases x <;> rfl

theorem OfferReason.code_eq (x : OfferReason) : x.code = reasonTable.idxOf x := by cases x <;> rfl

theorem ProposalOutcome.code_eq (x : ProposalOutcome) : x.code = proposalTable.idxOf x := by
  cases x <;> rfl

theorem PendingAction.code_eq (x : PendingAction) : x.code = actionTable.idxOf x := by
  rcases x with _ | _ | _
  · rfl
  · rename_i b
    cases b <;> rfl
  · rfl

theorem ReplyCode.code_eq (x : ReplyCode) : x.code = outcomeTable.idxOf x := by cases x <;> rfl

theorem Admission.code_eq (a : Admission) : a.code = byteOf (admissionTable.idxOf a) := by
  cases a <;> rfl

theorem byteOf_hostCode (h : Option HostId) : byteOf (hostCode h) = hostByte h := by
  cases h <;> rfl

theorem byteOf_bookCode (b : Option BookId) : byteOf (bookCode b) = bookByte b := by
  rcases b with _ | b
  · rfl
  · cases b <;> rfl

theorem byteOf_bookStateByte (st : Option BookState) :
    byteOf (bookStateByte st) = (st.map fun x => byteOf (bookStateTable.idxOf x)).getD 0xFF := by
  cases st with
  | none => rfl
  | some st => exact congrArg byteOf st.code_eq

theorem Settings.bytes_eq (x : Settings) : x.bytes = settingsBytes x := by
  rcases x with ⟨polarity, spacing, readback, settle⟩
  cases polarity <;> cases readback <;> rfl

theorem HostSet.code_eq (x : HostSet) :
    HostSet.code x =
      (if HostSet.has x 0 then 1 else 0) + (if HostSet.has x 1 then 2 else 0) +
        (if HostSet.has x 2 then 4 else 0) + if HostSet.has x 3 then 8 else 0 := by
  have hosts : allHosts = [0, 1, 2, 3] := rfl
  simp only [HostSet.code, hosts, List.filter_cons, List.filter_nil]
  cases HostSet.has x 0 <;> cases HostSet.has x 1 <;> cases HostSet.has x 2 <;>
    cases HostSet.has x 3 <;> rfl

theorem HostSet.code_lt (x : HostSet) : HostSet.code x < 16 := by
  rw [HostSet.code_eq]
  split <;> split <;> split <;> split <;> decide

theorem hostSetByte_eq (x : HostSet) : hostSetByte x = byteOf (HostSet.code x) := by
  rw [HostSet.code_eq]
  rfl

theorem toNat_hostSetByte (x : HostSet) : (hostSetByte x).toNat = HostSet.code x := by
  have small := HostSet.code_lt x
  rw [hostSetByte_eq, byteOf, BitVec.toNat_ofNat]
  omega

/-! ### The return frame -/

theorem Named.code_class (n : Named) (k : Nat) :
    be8 (n.code * 64 + k) =
      [BitVec.ofNat 8
        ((match n with
          | .nothing => 0
          | .reply => 64
          | .notice => 128) + k)] := by
  cases n <;> rfl

/-- The bytes that the CRC of a return frame covers. -/
def coveredBytes (b0 b1 : Byte) (n : Named) (msg : List Byte) : List Byte :=
  b0 :: b1 :: be8 (n.code * 64 + msg.length) ++ msg

theorem coveredBytes_length (b0 b1 : Byte) (n : Named) (msg : List Byte) :
    (coveredBytes b0 b1 n msg).length = 3 + msg.length := by
  simp [coveredBytes, be8]
  omega

theorem returnFrame_eq (b0 b1 : Byte) (n : Named) (msg : List Byte) :
    returnFrame b0 b1 (n, msg) =
      coveredBytes b0 b1 n msg ++
        (crc8 (coveredBytes b0 b1 n msg) :: List.replicate (52 - msg.length) 0xFF) := by
  have length := coveredBytes_length b0 b1 n msg
  have pad : frameBytes - (coveredBytes b0 b1 n msg ++ [crc8 (coveredBytes b0 b1 n msg)]).length =
      52 - msg.length := by
    rw [List.length_append, length]
    simp [frameBytes]
    omega
  change padTo frameBytes (coveredBytes b0 b1 n msg ++ [crc8 (coveredBytes b0 b1 n msg)]) = _
  rw [padTo, pad, List.append_assoc]
  rfl

theorem returnFrame_layout (b0 b1 : Byte) (n : Named) (msg : List Byte) (short : msg.length ≤ 52) :
    (returnFrame b0 b1 (n, msg)).length = 56 ∧
      (returnFrame b0 b1 (n, msg)).take (3 + msg.length) = coveredBytes b0 b1 n msg ∧
      (returnFrame b0 b1 (n, msg))[3 + msg.length]? = some (crc8 (coveredBytes b0 b1 n msg)) ∧
      ∀ i, i < 56 → 3 + msg.length < i → (returnFrame b0 b1 (n, msg))[i]? = some 0xFF := by
  have length := coveredBytes_length b0 b1 n msg
  rw [returnFrame_eq]
  refine ⟨by simp [length]; omega, ?_, ?_, fun i below above => ?_⟩
  · rw [← length]
    exact List.take_left
  · rw [← length, List.getElem?_append_right le_rfl]
    simp
  · obtain ⟨k, rfl⟩ := Nat.exists_eq_add_of_lt above
    rw [List.getElem?_append_right (by omega)]
    have place : 3 + msg.length + k + 1 - (coveredBytes b0 b1 n msg).length = k + 1 := by omega
    rw [place, List.getElem?_cons_succ, List.getElem?_replicate]
    exact if_pos (by omega)

theorem Port.flags_eq (p : Port) :
    p.flags =
      (if p.replies = [] then 0 else 128) + (if p.notices = [] then 0 else 64) +
        16 * (3 - (p.inbound.length + p.replies.length)) := by
  have replies : bit (!p.replies.isEmpty) 7 = if p.replies = [] then 0 else 128 := by
    cases p.replies <;> rfl
  have notices : bit (!p.notices.isEmpty) 6 = if p.notices = [] then 0 else 64 := by
    cases p.notices <;> rfl
  rw [Port.flags, replies, notices, Nat.mul_comm 16]
  rfl

theorem State.attn_iff (s : State) (h : HostId) :
    s.attn h = true ↔
      s.rstN = true ∧ (s.port h).held = false ∧
        ((s.port h).replies ≠ [] ∨ (s.port h).notices ≠ []) := by
  simp only [State.attn, Bool.and_eq_true, Bool.not_eq_true', Bool.and_eq_false_iff,
    List.isEmpty_eq_false_iff, and_assoc]

/-! ### Reports and notices -/

theorem indexBytes_eq (i : Option Nat) : indexBytes i = bytes2 (i.getD 0xFFFF) := by
  cases i <;> rfl

theorem reportFields_eq (r : Option Report) (free : Nat → Byte) (i : Nat) :
    reportFields r free i =
      bytes2 ((r.bind (·.index)).getD 0xFFFF) ++ bytes2 ((r.bind (·.second)).getD 0xFFFF) ++
        ((r.bind (·.tag)).map fun t => bytes2 t.toNat).getD (free2 free i) := by
  rw [reportFields, indexBytes_eq, indexBytes_eq]
  cases r.bind (·.tag) <;> rfl

/-- The subject fields of a notice are those of its table, then two free bytes where a report has no
tag. -/
theorem NoticeBody.bytes_eq (b : NoticeBody) (free : Nat → Byte) :
    be8 b.kind = [byteOf (noticeTable b).1] ∧
      b.bytes free = (noticeTable b).2 ++ if lacksTag b = true then free2 free 6 else [] := by
  cases b <;>
    simp only [NoticeBody.kind, NoticeBody.bytes, noticeTable, lacksTag, be8_eq, be16_eq, be32_eq,
      byteOf_bookCode, BookState.code_eq, ReportOutcome.code_eq, OfferReason.code_eq,
      ProposalOutcome.code_eq, reportFields_eq, List.append_nil, List.cons_append, List.nil_append,
      Bool.false_eq_true, if_false, true_and, List.append_assoc, and_self]
  case compileDone b r =>
    rcases r with ⟨outcome, index, second, tag⟩
    cases tag <;> simp

theorem noticeTable_length (b : NoticeBody) :
    (noticeTable b).2.length + (if lacksTag b = true then 2 else 0) ≤ 46 := by
  cases b <;> simp [noticeTable, lacksTag, bytes2_length, bytes4_length]
  case compileDone b r =>
    cases r.tag <;> simp [bytes2_length]

theorem Notice.bytes_layout (n : Notice) :
    n.bytes.length ≤ 52 ∧
      n.bytes.length =
        6 + (noticeTable n.body).2.length + (if lacksTag n.body = true then 2 else 0) ∧
      n.bytes.take (6 + (noticeTable n.body).2.length) =
        byteOf (noticeTable n.body).1 :: bytes4 n.frame.toNat ++
          byteOf n.repeats :: (noticeTable n.body).2 := by
  obtain ⟨kind, fields⟩ := n.body.bytes_eq (Config.absentByte n.draw)
  have short := noticeTable_length n.body
  have bytes : n.bytes =
      (byteOf (noticeTable n.body).1 :: bytes4 n.frame.toNat ++
        byteOf n.repeats :: (noticeTable n.body).2) ++
          if lacksTag n.body = true then free2 (Config.absentByte n.draw) 6 else [] := by
    rw [Notice.bytes, kind, fields, be32_eq, be8_eq]
    simp
  have length : (byteOf (noticeTable n.body).1 :: bytes4 n.frame.toNat ++
      byteOf n.repeats :: (noticeTable n.body).2).length = 6 + (noticeTable n.body).2.length := by
    simp [bytes4_length]
    omega
  have whole : n.bytes.length =
      6 + (noticeTable n.body).2.length + (if lacksTag n.body = true then 2 else 0) := by
    rw [bytes, List.length_append, length]
    split <;> rfl
  refine ⟨by omega, whole, ?_⟩
  rw [bytes, ← length]
  exact List.take_left

/-! ### Lane records, status blocks and books -/

/-- Byte 8 of a lane record as its bits, the lowest first. -/
theorem LaneRecord.flags_eq (r : LaneRecord) (free : Byte) :
    ∃ high, r.flags free =
      Nat.bit r.level (Nat.bit r.pending.isSome (Nat.bit r.pulseEnd.isSome (Nat.bit r.offer.isSome
        (Nat.bit r.faultFlag (Nat.bit r.faultRecord.isSome high))))) ∧
      ∀ x ∈ r.faultRecord, high = Nat.bit x.expectedHigh (Nat.bit x.observedHigh 0) := by
  have value (b : Bool) (k : Nat) : bit b k = b.toNat * 2 ^ k := by cases b <;> simp [bit]
  unfold LaneRecord.flags
  cases record : r.faultRecord with
  | some x =>
    refine ⟨Nat.bit x.expectedHigh (Nat.bit x.observedHigh 0), ?_, fun y same => by cases same; rfl⟩
    simp only [value, Nat.bit_val]
    omega
  | none =>
    have multiple : (free &&& 0xC0).toNat % 2 ^ 6 = 0 := by
      rw [BitVec.toNat_and, Nat.and_mod_two_pow]
      simp
    refine ⟨(free &&& 0xC0).toNat / 64, ?_, by simp⟩
    simp only [value, Nat.bit_val]
    omega

theorem getLsbD_byteOf (n k : Nat) (small : k < 8) : (byteOf n).getLsbD k = n.testBit k := by
  rw [byteOf, BitVec.getLsbD_ofNat]
  simp [small]

/-- The bits of byte 8 of a lane record. -/
theorem LaneRecord.flags_bits (r : LaneRecord) (free : Byte) :
    (byteOf (r.flags free)).getLsbD 0 = r.level ∧
      (byteOf (r.flags free)).getLsbD 1 = r.pending.isSome ∧
      (byteOf (r.flags free)).getLsbD 2 = r.pulseEnd.isSome ∧
      (byteOf (r.flags free)).getLsbD 3 = r.offer.isSome ∧
      (byteOf (r.flags free)).getLsbD 4 = r.faultFlag ∧
      (byteOf (r.flags free)).getLsbD 5 = r.faultRecord.isSome ∧
      ∀ x ∈ r.faultRecord,
        (byteOf (r.flags free)).getLsbD 6 = x.expectedHigh ∧
          (byteOf (r.flags free)).getLsbD 7 = x.observedHigh := by
  obtain ⟨high, bits, last⟩ := r.flags_eq free
  simp only [bits, getLsbD_byteOf _ _ (by decide : 0 < 8), getLsbD_byteOf _ _ (by decide : 1 < 8),
    getLsbD_byteOf _ _ (by decide : 2 < 8), getLsbD_byteOf _ _ (by decide : 3 < 8),
    getLsbD_byteOf _ _ (by decide : 4 < 8), getLsbD_byteOf _ _ (by decide : 5 < 8),
    getLsbD_byteOf _ _ (by decide : 6 < 8), getLsbD_byteOf _ _ (by decide : 7 < 8),
    Nat.testBit_bit_zero, Nat.testBit_bit_succ, true_and]
  intro x record
  rw [last x record, Nat.testBit_bit_zero, Nat.testBit_bit_succ, Nat.testBit_bit_zero]
  exact ⟨rfl, rfl⟩

/-- The bytes of a field that may be absent. -/
def fieldBytes {α : Type} (o : Option α) (f : α → List Byte) (absent : List Byte) : List Byte :=
  (o.map f).getD absent

theorem fieldBytes_of_mem {α : Type} {o : Option α} {f : α → List Byte} {absent : List Byte} :
    ∀ x ∈ o, fieldBytes o f absent = f x := by
  intro x present
  cases present
  rfl

theorem fieldBytes_length {α : Type} (o : Option α) {f : α → List Byte} {absent : List Byte} {n : Nat}
    (present : ∀ x, (f x).length = n) (free : absent.length = n) :
    (fieldBytes o f absent).length = n := by
  cases o
  · exact free
  · exact present _

theorem LaneRecord.bytes_eq (r : LaneRecord) (free : Nat → Byte) :
    r.bytes free =
      [byteOf (laneStateTable.idxOf r.state), hostByte r.holder] ++ settingsBytes r.settings ++
        (fieldBytes r.pending settingsBytes [free 5, free 6, free 7]) ++
        byteOf (r.flags (free 8)) ::
        (fieldBytes r.pulseEnd bytes4 [free 9, free 10, free 11, free 12]) ++
        hostByte (r.offer.map (·.target)) ::
        (fieldBytes r.offer (fun o => [byteOf (o.remaining.getD 0)]) [free 14]) ++
        byteOf r.faultCount ::
        fieldBytes r.faultRecord (fun x => bytes4 x.frame.toNat ++ bytes4 x.position)
          [free 16, free 17, free 18, free 19, free 20, free 21, free 22, free 23] := by
  unfold LaneRecord.bytes
  simp only [be8_eq, be32_eq, Settings.bytes_eq, LaneState.code_eq, byteOf_hostCode]
  cases r.pending <;> cases r.pulseEnd <;> cases r.offer <;> cases r.faultRecord <;> rfl

/-- A lane record of 24 bytes, by the lengths of its fields. -/
theorem LaneRecord.bytes_layout (r : LaneRecord) (free : Nat → Byte) :
    laneRecordLayout r (r.bytes free) := by
  obtain ⟨level, pending, pulseEnd, offer, fault, record, seen⟩ := r.flags_bits (free 8)
  rw [r.bytes_eq free]
  have settingsField := fieldBytes_of_mem (o := r.pending) (f := settingsBytes)
    (absent := [free 5, free 6, free 7])
  have pulseField := fieldBytes_of_mem (o := r.pulseEnd) (f := bytes4)
    (absent := [free 9, free 10, free 11, free 12])
  have offerField := fieldBytes_of_mem (o := r.offer)
    (f := fun o => [byteOf (o.remaining.getD 0)]) (absent := [free 14])
  have recordField := fieldBytes_of_mem (o := r.faultRecord)
    (f := fun x => bytes4 x.frame.toNat ++ bytes4 x.position)
    (absent := [free 16, free 17, free 18, free 19, free 20, free 21, free 22, free 23])
  obtain ⟨p0, p1, p2, settingsIs⟩ := List.length_eq_three.1
    (fieldBytes_length r.pending (f := settingsBytes) (absent := [free 5, free 6, free 7])
      (fun _ => rfl) rfl)
  obtain ⟨e0, e1, e2, e3, pulseIs⟩ := List.length_eq_four.1
    (fieldBytes_length r.pulseEnd (f := bytes4) (absent := [free 9, free 10, free 11, free 12])
      (fun _ => rfl) rfl)
  obtain ⟨o0, offerIs⟩ := List.length_eq_one_iff.1
    (fieldBytes_length r.offer (f := fun o => [byteOf (o.remaining.getD 0)]) (absent := [free 14])
      (fun _ => rfl) rfl)
  have recordLength := fieldBytes_length r.faultRecord
    (f := fun x => bytes4 x.frame.toNat ++ bytes4 x.position)
    (absent := [free 16, free 17, free 18, free 19, free 20, free 21, free 22, free 23])
    (fun _ => rfl) rfl
  rw [settingsIs] at settingsField ⊢
  rw [pulseIs] at pulseField ⊢
  rw [offerIs] at offerField ⊢
  refine ⟨?_, rfl, settingsField, ⟨level, pending, pulseEnd, offer, fault, record⟩, pulseField, rfl,
    fun o present => (List.singleton_inj.1 (offerField o present)), rfl,
    fun x present => ⟨recordField x present, seen x present⟩⟩
  simp [settingsBytes, recordLength]

/-! ### The status block -/

theorem proposalBytes_layout (p : Option Proposal) :
    (proposalBytes p).length = 7 ∧ (p = none → proposalBytes p = List.replicate 7 0) ∧
      ∀ q ∈ p, proposalBytes p =
        byteOf ((if q.state = .opened then 64 else 128) + q.proposer.val) :: bytes4 q.newF ++
          [byteOf q.window,
            byteOf ((hostSetByte q.yes).toNat * 16 + (hostSetByte q.voters).toNat)] := by
  cases p with
  | none => exact ⟨rfl, fun _ => rfl, by simp⟩
  | some p =>
    refine ⟨by simp [proposalBytes, be8_eq, be32_eq, bytes4_length], nofun, fun q same => ?_⟩
    cases same
    have state : p.state.code * 64 = if p.state = .opened then 64 else 128 := by
      cases p.state <;> rfl
    simp [proposalBytes, be8_eq, be32_eq, state, toNat_hostSetByte]

theorem RunRecord.flags_eq (r : RunRecord) :
    r.flags =
      (if r.mode = .single then 0 else 128) +
        (if r.active = some .A then 0 else if r.active = some .B then 16 else 48) +
        actionTable.idxOf r.action := by
  rcases r with ⟨mode, active, action, runA, runB, turn⟩
  rw [RunRecord.flags, PendingAction.code_eq]
  rcases active with _ | _ | _ <;> cases mode <;> rfl

/-- The byte of a lane in a status block. -/
def laneStatusByte (x : LaneState × Option HostId) : Byte :=
  byteOf (laneStateTable.idxOf x.1 * 32 + (x.2.map (·.val)).getD 0)

theorem StatusBlock.bytes_eq (b : StatusBlock) :
    b.bytes =
      (bytes4 b.frame.toNat ++ bytes4 b.position ++ bytes4 b.f) ++
        (proposalBytes b.proposal ++
          (b.lanes.toList.map laneStatusByte ++
            (byteOf (bookStateTable.idxOf b.stateA * 16 + bookStateTable.idxOf b.stateB) ::
              bytes2 b.lengthA ++ bytes2 b.lengthB ++ bytes2 b.slots ++ bytes2 b.commonFree ++
              [byteOf b.run.flags, byteOf b.run.runA, byteOf b.run.runB, byteOf b.run.turn]))) := by
  rw [StatusBlock.bytes, List.map_eq_flatMap]
  simp only [be8_eq, be16_eq, be32_eq, BookState.code_eq, LaneState.code_eq, List.append_assoc,
    List.cons_append, List.nil_append, laneStatusByte]
  congr 5
  refine List.flatMap_congr fun x _ => ?_
  cases x.2 <;> rfl

theorem StatusBlock.bytes_layout (b : StatusBlock) : statusLayout b b.bytes := by
  obtain ⟨length, absent, present⟩ := proposalBytes_layout b.proposal
  have lanes : (b.lanes.toList.map laneStatusByte).length = 16 := by simp
  rw [b.bytes_eq]
  have record (r : List Byte) :
      (((bytes4 b.frame.toNat ++ bytes4 b.position ++ bytes4 b.f) ++
        (proposalBytes b.proposal ++ r)).drop 12).take 7 = proposalBytes b.proposal := by
    rw [List.drop_left' (by rfl), List.take_left' length]
  refine ⟨?_, List.take_left' rfl, fun none => (record _).trans (absent none),
    fun p some => (record _).trans (present p some), fun l => ?_, ?_⟩
  · simp [bytes4_length, bytes2_length, length]
  · have place : 19 + l.val = 12 + (7 + l.val) := by omega
    rw [place, List.getD_eq_getElem?_getD, List.getElem?_append_right (by simp [bytes4_length]),
      List.getElem?_append_right (by simp [bytes4_length, length]),
      List.getElem?_append_left (by simp [bytes4_length, length])]
    simp [bytes4_length, length, laneStatusByte]
  · rw [RunRecord.flags_eq, ← List.append_assoc, ← List.append_assoc]
    exact List.drop_left' (by simp [bytes4_length, length])

/-! ### Cues and books -/

theorem Cue.bytes_layout (c : Cue) (free : Nat → Byte) (i : Nat) : cueLayout c (c.bytes free i) := by
  rcases c with ⟨action, offset, every, phase, tag⟩
  cases action with
  | rise l => exact ⟨rfl, rfl, by simp only [Cue.bytes, be24_eq]; rfl, nofun, rfl⟩
  | fall l => exact ⟨rfl, rfl, by simp only [Cue.bytes, be24_eq]; rfl, nofun, rfl⟩
  | note => exact ⟨rfl, rfl, by simp only [Cue.bytes, be24_eq]; rfl, nofun, rfl⟩
  | pulse l w =>
    refine ⟨rfl, rfl, by simp only [Cue.bytes, be24_eq]; rfl, fun v width => ?_, rfl⟩
    cases width
    rfl

theorem cuesBytes_length (free : Nat → Byte) (i : Nat) (cs : List Cue) :
    (cuesBytes free i cs).length = 10 * cs.length := by
  induction cs generalizing i with
  | nil => rfl
  | cons c cs ih =>
    rw [cuesBytes, List.length_append, ih, (c.bytes_layout free i).1, List.length_cons]
    omega

/-- The cue at index `k` stands ten bytes further per cue before it. -/
theorem cuesBytes_at (free : Nat → Byte) (i : Nat) (cs : List Cue) (k : Nat) :
    ∀ c ∈ cs[k]?, ((cuesBytes free i cs).drop (10 * k)).take 10 = c.bytes free (i + 10 * k) := by
  induction cs generalizing i k with
  | nil => simp
  | cons d cs ih =>
    have length := (d.bytes_layout free i).1
    intro c present
    cases k with
    | zero =>
      cases present
      exact List.take_left' length
    | succ k =>
      have found := ih (i + 10) k c (by simpa using present)
      rw [cuesBytes, Nat.mul_succ, Nat.add_comm (10 * k), ← List.drop_drop, List.drop_left' length,
        found]
      congr 1
      omega

theorem bookRead_layout (st : BookState) (n : Nat) (r : Option Report) (cs : List Cue)
    (free : Nat → Byte) : bookReadLayout st n r cs ((Result.bookRead st n r cs).bytes free) := by
  have outcome : reportCode r = reportTable.idxOf (r.map (·.outcome)) := by
    cases r with
    | none => rfl
    | some r => exact r.outcome.code_eq
  generalize place : ((r.bind (·.tag)).map fun t => bytes2 t.toNat).getD (free2 free 7) = tagBytes
  have tag : tagBytes.length = 2 := by
    rw [← place]
    cases r.bind (·.tag) <;> rfl
  have bytes : (Result.bookRead st n r cs).bytes free =
      (byteOf (bookStateTable.idxOf st * 16 + reportTable.idxOf (r.map (·.outcome))) ::
        bytes2 n ++ bytes2 ((r.bind (·.index)).getD 0xFFFF) ++
          bytes2 ((r.bind (·.second)).getD 0xFFFF)) ++
        (tagBytes ++ cuesBytes free 9 cs) := by
    simp only [Result.bytes, be8_eq, be16_eq, BookState.code_eq, outcome, reportFields_eq, place,
      List.append_assoc, List.cons_append, List.nil_append]
  rw [bytes]
  refine ⟨?_, List.take_left' rfl, fun t present => ?_, fun i _ c present => ?_⟩
  · simp [bytes2_length, tag, cuesBytes_length]
    omega
  · rw [List.drop_left' (by simp [bytes2_length]), List.take_left' tag, ← place,
      Option.mem_def.1 present]
    rfl
  · have book := cuesBytes_at free 9 cs i c present
    rw [← List.drop_drop, ← List.append_assoc,
      List.drop_left' (by simp [bytes2_length, tag]), book]
    exact c.bytes_layout free _

/-! ### Replies -/

theorem Result.bytes_layout (r : Result) (free : Nat → Byte) : resultLayout r (r.bytes free) := by
  cases r
  case status b => exact b.bytes_layout
  case laneRecord x => exact x.bytes_layout free
  case bookRead st n p cs => exact bookRead_layout st n p cs free
  case mode m a t =>
    have mode : byteOf m.code = if m = .single then 0 else 1 := by cases m <;> rfl
    simp [resultLayout, resultTable, Result.bytes, be8_eq, byteOf_bookCode, mode]
  all_goals
    simp [resultLayout, resultTable, Result.bytes, be8_eq, be16_eq, be32_eq, byteOf_bookCode,
      byteOf_bookStateByte, BookState.code_eq, ProposalOutcome.code_eq, hostSetByte_eq]

/-- Settles O52. -/
theorem returnFrameLayout : Obligations.ReturnFrameLayout := by
  refine ⟨fun b0 b1 n msg short => ?_, Port.flags_eq, Admission.code_eq, State.attn_iff, fun r => ?_,
    Notice.bytes_layout⟩
  · obtain ⟨length, covered, crc, ones⟩ := returnFrame_layout b0 b1 n msg short
    refine ⟨length, ?_, by rw [covered]; exact crc, fun i below above =>
      ones i (List.mem_range.1 below) above⟩
    rw [covered, coveredBytes, Named.code_class]
    rfl
  · refine ⟨?_, r.result.bytes_layout _⟩
    rw [Reply.bytes, be8_eq, ReplyCode.code_eq]
    rfl

end Sys2Proof.Machine
end

section
/-!
PROOFS. The order an operand gives: which of two reactions comes first (R113, R138).
-/

namespace Sys2Proof.Machine

open Sys2Proof.Safety

section Before

variable {α : Type} [DecidableEq α] {a b : α}

/-- `a` stands before the first `b` of a list. -/
def Before (a b : α) (xs : List α) : Prop := a ∈ xs.takeWhile (· != b)

theorem before_nil : ¬ Before a b [] := by simp [Before]

theorem before_cons {x : α} {xs : List α} : Before a b (x :: xs) ↔ x ≠ b ∧ (a = x ∨ Before a b xs) := by
  unfold Before
  by_cases same : x = b <;> simp [same]

/-- What a filter keeps stands in the same order. -/
theorem before_filter {p : α → Bool} (keepsA : p a = true) (keepsB : p b = true) (xs : List α) :
    Before a b (xs.filter p) ↔ Before a b xs := by
  induction xs with
  | nil => rfl
  | cons x xs ih =>
    by_cases kept : p x = true
    · rw [List.filter_cons_of_pos kept, before_cons, before_cons, ih]
    · rw [List.filter_cons_of_neg kept, ih, before_cons]
      have notA : a ≠ x := fun same => kept (same ▸ keepsA)
      have notB : x ≠ b := fun same => kept (same ▸ keepsB)
      simp [notA, notB]

/-- Repeats do not matter to the order of first occurrences. -/
theorem before_eraseDups (xs : List α) : Before a b xs.eraseDups ↔ Before a b xs := by
  induction len : xs.length using Nat.strong_induction_on generalizing xs with
  | _ n ih =>
    cases xs with
    | nil => rfl
    | cons x xs =>
      rw [List.eraseDups_cons, before_cons, before_cons]
      have shorter : (xs.filter fun y => !y == x).length < n := by
        rw [← len]
        exact Nat.lt_succ_of_le (List.length_filter_le _ _)
      rw [ih _ shorter _ rfl]
      by_cases isA : a = x
      · simp [isA]
      · by_cases isB : x = b
        · simp [isB]
        · rw [before_filter (by simpa using isA) (by simpa using Ne.symm isB)]

theorem before_append {xs ys : List α} :
    Before a b (xs ++ ys) ↔ Before a b xs ∨ b ∉ xs ∧ (a ∈ xs ∨ Before a b ys) := by
  induction xs with
  | nil => simp [before_nil]
  | cons x xs ih =>
    rw [List.cons_append, before_cons, before_cons, ih, List.mem_cons, List.mem_cons]
    grind

theorem mem_of_before {xs : List α} (first : Before a b xs) : a ∈ xs := List.takeWhile_subset _ first

/-- The order of two reactions in the order an operand gives: that of the operand where it lists the
later one, and otherwise the operand's before the rest. -/
theorem before_inOrder {preferred all : List α} (memA : a ∈ all) (memB : b ∈ all) :
    Before a b (inOrder preferred all) ↔
      Before a b preferred ∨ b ∉ preferred ∧ (a ∈ preferred ∨ Before a b all) := by
  rw [inOrder, before_append, before_eraseDups,
    before_filter (by simpa using memA) (by simpa using memB)]
  simp only [List.mem_eraseDups, List.mem_filter, decide_eq_true_eq, memA, memB, and_true]
  by_cases listedB : b ∈ preferred
  · simp [listedB]
  · by_cases listedA : a ∈ preferred
    · simp [listedB, listedA]
    · rw [before_filter (by simpa using listedA) (by simpa using listedB)]

/-- A list split at an element: what stands before it is what comes before its first occurrence. -/
theorem before_split {xs ys : List α} (fresh : b ∉ xs) : Before a b (xs ++ b :: ys) ↔ a ∈ xs := by
  rw [before_append, before_cons]
  refine ⟨fun h => ?_, fun mem => .inr ⟨fresh, .inl mem⟩⟩
  rcases h with first | ⟨_, mem | ⟨absurd', _⟩⟩
  · exact mem_of_before first
  · exact mem
  · exact absurd rfl absurd'

end Before

/-! ### The two reactions of a lane to an arrival -/

theorem nodup_everyArrivalReaction : everyArrivalReaction.Nodup := by decide

theorem check_mem_everyArrivalReaction (l : LaneId) : .check l ∈ everyArrivalReaction := by
  simp [everyArrivalReaction]

theorem drive_mem_everyArrivalReaction (l : LaneId) : .drive l ∈ everyArrivalReaction := by
  simp [everyArrivalReaction]

theorem notes_mem_everyArrivalReaction (h : HostId) : .notes h ∈ everyArrivalReaction := by
  simp [everyArrivalReaction]

/-- Where the operand says nothing of the two, a check precedes the change of its lane. -/
theorem before_everyArrivalReaction (l : LaneId) :
    ¬ Before (.drive l) (.check l) everyArrivalReaction := by
  unfold everyArrivalReaction
  rw [List.append_assoc, before_append]
  rintro (first | ⟨fresh, _⟩)
  · exact absurd (mem_of_before first) (by simp)
  · exact fresh (by simp)

theorem not_before_symm {α : Type} [DecidableEq α] {a b : α} (other : a ≠ b) (xs : List α)
    (mem : b ∈ xs) : ¬ Before a b xs ↔ Before b a xs := by
  induction xs with
  | nil => simp at mem
  | cons x xs ih =>
    rw [before_cons, before_cons]
    rcases List.mem_cons.1 mem with rfl | inTail
    · simp [Ne.symm other]
    · by_cases isA : x = a
      · simp [isA, other]
      · by_cases isB : x = b
        · simp [isB, Ne.symm other]
        · simp [isA, isB, Ne.symm isA, Ne.symm isB, ih inTail]

/-- The change of a lane comes before its check exactly when the operand says so (R138). -/
theorem changeFirst_iff (order : List ArrivalReaction) (l : LaneId) :
    changeFirst order l = true ↔ Before (.drive l) (.check l) (inOrder order everyArrivalReaction) := by
  rw [before_inOrder (drive_mem_everyArrivalReaction l) (check_mem_everyArrivalReaction l)]
  have rest := before_everyArrivalReaction l
  have first : changeFirst order l = true ↔
      .drive l ∈ order ∧ ¬ Before (.check l) (.drive l) order := by
    simp [changeFirst, Before]
  rw [first]
  by_cases listed : (.check l : ArrivalReaction) ∈ order
  · simp only [listed, not_true, false_and, or_false]
    refine ⟨fun ⟨mem, notFirst⟩ => ?_, fun before => ⟨mem_of_before before, ?_⟩⟩
    · exact (not_before_symm (by simp) order mem).1 notFirst
    · rwa [not_before_symm (by simp) order (mem_of_before before)]
  · have notFirst : ¬ Before (.check l) (.drive l) order := fun before => listed (mem_of_before before)
    have notLast : Before (.drive l) (.check l) order → (.drive l : ArrivalReaction) ∈ order := mem_of_before
    simp only [listed, notFirst, rest]
    tauto

end Sys2Proof.Machine
end

section
/-!
PROOFS. An arrival, lane by lane and port by port (R16 to R20, R112 to R115, R137, R138).
-/

namespace Sys2Proof.Machine

open Sys2Proof.Safety

variable {s t u : State} {l : LaneId} {g : HostId}

/-! ### What the reactions to an arrival read -/

theorem State.host_congr (hosts : t.hosts = s.hosts) (h : HostId) : t.host h = s.host h := by
  simp [State.host, hosts]

theorem State.run_congr (hosts : t.hosts = s.hosts) (h : HostId) : t.run h = s.run h := by
  simp [State.run, State.host_congr hosts]

theorem State.book_congr (hosts : t.hosts = s.hosts) (h : HostId) (b : BookId) :
    t.book h b = s.book h b := by simp [State.book, State.host_congr hosts]

theorem State.dueCues_congr (hosts : t.hosts = s.hosts) (timebase : t.timebase = s.timebase) (h : HostId) :
    t.dueCues h = s.dueCues h := by
  simp only [State.dueCues, State.run_congr hosts, State.book_congr hosts, timebase]

/-- The cues that start on lane `l` where the lane is `x`. -/
def State.startingOn (s : State) (l : LaneId) (x : Lane) : List Cue := (s.setLane l x).starting l

theorem State.starting_eq (hosts : t.hosts = s.hosts) (timebase : t.timebase = s.timebase) (l : LaneId) :
    t.starting l = s.startingOn l (t.lane l) := by
  have due (h : HostId) : t.dueCues h = (s.setLane l (t.lane l)).dueCues h :=
    State.dueCues_congr hosts timebase h
  simp only [State.startingOn, State.starting, State.lane_setLane_self, due, timebase,
    State.setLane_timebase]

theorem State.starting_self (s : State) (l : LaneId) : s.starting l = s.startingOn l (s.lane l) :=
  State.starting_eq rfl rfl l

/-- The cues that start on a lane depend on who holds it, its state and its fault flag alone. -/
theorem State.startingOn_congr {x y : Lane} (holder : y.holder = x.holder) (state : y.state = x.state)
    (flag : y.faultFlag = x.faultFlag) : s.startingOn l y = s.startingOn l x := by
  have due (h : HostId) : (s.setLane l y).dueCues h = (s.setLane l x).dueCues h :=
    State.dueCues_congr rfl rfl h
  simp only [State.startingOn, State.starting, State.lane_setLane_self, holder, state, flag, due,
    State.setLane_timebase]

/-- Lane `x` after the drivers' work at the arrival `s` stands at. -/
def State.afterDrive (s : State) (l : LaneId) (x : Lane) : Lane :=
  x.arrive s.timebase.position (s.startingOn l x)

/-- Lane `x` after the check that falls due for lane `l` at the arrival `s` stands at, if one does. -/
def State.afterCheck (s : State) (i : ArrivalIn) (l : LaneId) (x : Lane) : Lane :=
  if (s.lane l).check = some 0 then
    (Lane.compare l s.timebase.frame s.timebase.position (i.rbk.getLsbD l.val) x).1
  else x

theorem State.mem_dueChecks : l ∈ s.dueChecks ↔ (s.lane l).check = some 0 := by
  simp [State.dueChecks]

/-! ### The reactions, lane by lane -/

/-- The state during an arrival: the timebase, the host records and the RBK levels are those it began
with. -/
structure State.Arriving (s : State) (i : ArrivalIn) (u : State) : Prop where
  timebase : u.timebase = s.timebase
  hosts : u.hosts = s.hosts
  rbk : u.rbk = i.rbk

namespace State

variable {i : ArrivalIn} {due : List LaneId} {r : ArrivalReaction} {rs : List ArrivalReaction}

theorem Arriving.react (now : s.Arriving i u) (due : List LaneId) (r : ArrivalReaction) :
    s.Arriving i (u.reactArrival due r) :=
  ⟨by simp [now.timebase], by simp [now.hosts], by simp [now.rbk]⟩

theorem Arriving.foldl (now : s.Arriving i u) (due : List LaneId) (rs : List ArrivalReaction) :
    s.Arriving i (rs.foldl (State.reactArrival due) u) :=
  foldl_keeps _ (s.Arriving i) (fun _ r now => now.react due r) rs u now

theorem lane_reactArrival_drive (now : s.Arriving i u) :
    (u.reactArrival due (.drive l)).lane l = s.afterDrive l (u.lane l) := by
  simp only [State.reactArrival, State.driveLane, State.lane_setLane_self, State.afterDrive,
    State.starting_eq now.hosts now.timebase, now.timebase]

theorem lane_reactArrival_check (now : s.Arriving i u) :
    (u.reactArrival s.dueChecks (.check l)).lane l = s.afterCheck i l (u.lane l) := by
  simp only [State.reactArrival, State.afterCheck, State.mem_dueChecks]
  split
  · simp only [State.checkLane, State.lane_reactLane, if_true, now.timebase, now.rbk]
  · rfl

/-- Other reactions leave a lane as it is. -/
theorem lane_reactArrival_other (notDrive : r ≠ .drive l) (notCheck : r ≠ .check l) :
    (u.reactArrival due r).lane l = u.lane l := by
  cases r with
  | check k =>
    have other : l ≠ k := fun same => notCheck (by rw [same])
    simp only [State.reactArrival]
    split
    · rw [State.checkLane, State.lane_reactLane, if_neg other]
    · rfl
  | drive k =>
    have other : l ≠ k := fun same => notDrive (by rw [same])
    exact State.lane_setLane_ne _ _ other
  | notes h => simp [State.reactArrival, State.postNotes]

theorem lane_foldl_reactArrival_none (notDrive : .drive l ∉ rs) (notCheck : .check l ∉ rs) :
    (rs.foldl (State.reactArrival due) u).lane l = u.lane l := by
  induction rs generalizing u with
  | nil => rfl
  | cons r rs ih =>
    rw [List.mem_cons, not_or] at notDrive notCheck
    rw [List.foldl_cons, ih notDrive.2 notCheck.2,
      lane_reactArrival_other (Ne.symm notDrive.1) (Ne.symm notCheck.1)]

/-- Reactions among which the check of lane `l` is not: the lane is driven if the drive is among
them. -/
theorem lane_foldl_reactArrival (now : s.Arriving i u) (nodup : rs.Nodup) (notCheck : .check l ∉ rs) :
    (rs.foldl (State.reactArrival due) u).lane l =
      if .drive l ∈ rs then s.afterDrive l (u.lane l) else u.lane l := by
  split
  · rename_i mem
    obtain ⟨before, after, rfl⟩ := List.append_of_mem mem
    rw [List.nodup_middle, List.nodup_cons, List.mem_append, not_or] at nodup
    rw [List.mem_append, List.mem_cons, not_or, not_or] at notCheck
    rw [List.foldl_append, List.foldl_cons,
      lane_foldl_reactArrival_none nodup.1.2 notCheck.2.2,
      lane_reactArrival_drive (now.foldl due before),
      lane_foldl_reactArrival_none nodup.1.1 notCheck.1]
  · rename_i notDrive
    exact lane_foldl_reactArrival_none notDrive notCheck

/-- The state from which the reactions to an arrival start. -/
def arrivalBase (s : State) (i : ArrivalIn) : State := (s.setRbk i.rbk).mapLanes Lane.takeDue

theorem arriving_base (s : State) (i : ArrivalIn) : s.Arriving i (s.arrivalBase i) :=
  ⟨rfl, rfl, rfl⟩

theorem lane_arrivalBase (s : State) (i : ArrivalIn) (l : LaneId) :
    (s.arrivalBase i).lane l = (s.lane l).takeDue := by
  simp [State.arrivalBase]

/-- An arrival is the reactions before the check of a lane, that check, and those after it. -/
theorem arrive_split (s : State) (i : ArrivalIn) (r : ArrivalReaction) (listed : r ∈ everyArrivalReaction) :
    ∃ before after : List ArrivalReaction,
      inOrder i.order everyArrivalReaction = before ++ r :: after ∧
        before.Nodup ∧ after.Nodup ∧ r ∉ before ∧ r ∉ after ∧
          (∀ q ∈ everyArrivalReaction, q ≠ r → (q ∈ after ↔ q ∉ before)) ∧
          s.arrive i =
            after.foldl (State.reactArrival s.dueChecks)
              ((before.foldl (State.reactArrival s.dueChecks) (s.arrivalBase i)).reactArrival
                s.dueChecks r) := by
  have once := nodup_inOrder i.order everyArrivalReaction nodup_everyArrivalReaction
  have every (q : ArrivalReaction) := mem_inOrder q i.order everyArrivalReaction
  obtain ⟨before, after, order⟩ := List.append_of_mem ((every r).2 listed)
  rw [order] at once
  have apart := List.nodup_append.1 once
  rw [List.nodup_middle, List.nodup_cons, List.mem_append, not_or] at once
  refine ⟨before, after, order, apart.1, (List.nodup_cons.1 apart.2.1).2, once.1.1, once.1.2,
    fun q mem other => ?_, ?_⟩
  · have q' := (every q).2 mem
    rw [order, List.mem_append, List.mem_cons] at q'
    have disjoint : q ∈ after → q ∉ before := fun a b =>
      apart.2.2 q b q (List.mem_cons_of_mem _ a) rfl
    tauto
  · rw [State.arrive, order, List.foldl_append, List.foldl_cons]
    rfl

/-- A lane after an arrival: driven, and checked where a check is due, in the order the operand
gives (R16 to R20, R138). -/
theorem lane_arrive (s : State) (i : ArrivalIn) (l : LaneId) :
    (s.arrive i).lane l =
      if changeFirst i.order l = true then
        s.afterCheck i l (s.afterDrive l (s.lane l).takeDue)
      else s.afterDrive l (s.afterCheck i l (s.lane l).takeDue) := by
  obtain ⟨before, after, order, nodup, nodupAfter, notBefore, notAfter, rest, arrive⟩ :=
    s.arrive_split i (.check l) (check_mem_everyArrivalReaction l)
  have first : changeFirst i.order l = true ↔ .drive l ∈ before := by
    rw [changeFirst_iff, order, before_split notBefore]
  have now := (s.arriving_base i).foldl s.dueChecks before
  rw [arrive, lane_foldl_reactArrival (now.react s.dueChecks (.check l)) nodupAfter notAfter,
    lane_reactArrival_check now, lane_foldl_reactArrival (s.arriving_base i) nodup notBefore,
    lane_arrivalBase]
  have last := rest (.drive l) (drive_mem_everyArrivalReaction l) (by simp)
  by_cases driveFirst : (.drive l : ArrivalReaction) ∈ before
  · simp [first, last, driveFirst]
  · simp [first, last, driveFirst]

/-- Where no check of the lane is due, it is driven. -/
theorem lane_arrive_unchecked (i : ArrivalIn) (notDue : (s.lane l).check ≠ some 0) :
    (s.arrive i).lane l = s.afterDrive l (s.lane l) := by
  have same (x : Lane) : s.afterCheck i l x = x := if_neg notDue
  have kept : (s.lane l).takeDue = s.lane l := if_neg notDue
  rw [lane_arrive, same, same, kept, ite_self]

end State

/-! ### The reactions, port by port -/

/-- Port `g` of `t` is that of `s` with the notices `bs` posted, in the same frame. -/
structure State.Tells (g : HostId) (bs : List NoticeBody) (s t : State) : Prop where
  frame : t.timebase.frame = s.timebase.frame
  port : plainPort (t.port g) = plainPort (tellAll s.timebase.frame (s.port g) bs)

namespace State

variable {bs cs : List NoticeBody} {i : ArrivalIn} {due : List LaneId} {r : ArrivalReaction}
  {rs : List ArrivalReaction}

theorem Tells.of_port (frame : t.timebase.frame = s.timebase.frame) (port : t.port g = s.port g) :
    s.Tells g [] t := ⟨frame, congrArg plainPort port⟩

theorem Tells.refl (s : State) (g : HostId) : s.Tells g [] s := .of_port rfl rfl

theorem tellAll_append (f : Word32) (p : Port) (bs cs : List NoticeBody) :
    tellAll f p (bs ++ cs) = tellAll f (tellAll f p bs) cs := List.foldl_append

theorem Tells.trans (first : s.Tells g bs t) (second : t.Tells g cs u) : s.Tells g (bs ++ cs) u := by
  refine ⟨second.frame.trans first.frame, ?_⟩
  rw [second.port, first.frame, plainPort_tellAll_congr _ _ first.port, tellAll_append]

theorem Tells.quiet (first : s.Tells g [] t) (second : t.Tells g bs u) : s.Tells g bs u :=
  first.trans second

theorem Tells.then_quiet (first : s.Tells g bs t) (second : t.Tells g [] u) : s.Tells g bs u := by
  simpa using first.trans second

/-- The notices of a list for one host. -/
def postsFor (g : HostId) (ps : Posts) : List NoticeBody := (ps.filter fun p => p.1 == g).map (·.2)

theorem tells_postAll (s : State) (ps : Posts) (g : HostId) :
    s.Tells g (postsFor g ps) (s.postAll ps) :=
  ⟨by simp, plainPort_postAll s ps g⟩

theorem tells_reactLane (s : State) (l : LaneId) (f : Lane → Lane × Posts) (g : HostId) :
    s.Tells g (postsFor g (f (s.lane l)).2) (s.reactLane l f) :=
  (Tells.of_port (s := s) (t := s.setLane l (f (s.lane l)).1) rfl rfl).quiet
    (tells_postAll (s.setLane l (f (s.lane l)).1) (f (s.lane l)).2 g)

theorem postsFor_eq_nil {ps : Posts} (none : ∀ p ∈ ps, p.1 ≠ g) : postsFor g ps = [] := by
  have empty : ps.filter (fun p => p.1 == g) = [] := by simpa using none
  rw [postsFor, empty]
  rfl

theorem postsFor_map_self {β : Type} (xs : List β) (f : β → NoticeBody) :
    postsFor g (xs.map fun x => (g, f x)) = xs.map f := by
  simp [postsFor, List.filter_eq_self.2, Function.comp_def]

theorem postsFor_toList (o : Option HostId) (f : HostId → NoticeBody) :
    postsFor g (o.toList.map fun k => (k, f k)) = if o = some g then [f g] else [] := by
  rcases o with _ | k
  · rfl
  · by_cases same : k = g
    · subst same
      simp [postsFor]
    · simp [postsFor, same]

theorem postsFor_append (ps qs : Posts) : postsFor g (ps ++ qs) = postsFor g ps ++ postsFor g qs := by
  simp [postsFor]

theorem postsFor_singleton (k : HostId) (b : NoticeBody) :
    postsFor g [(k, b)] = if k = g then [b] else [] := by
  by_cases same : k = g <;> simp [postsFor, same]

/-- Steps that each tell a host nothing tell it nothing. -/
theorem foldl_tells_nothing {β : Type} {f : State → β → State} {P : State → Prop} {bs : List β}
    (each : ∀ u, ∀ b ∈ bs, P u → P (f u b) ∧ u.Tells g [] (f u b)) {u : State} (start : P u) :
    P (bs.foldl f u) ∧ u.Tells g [] (bs.foldl f u) := by
  induction bs generalizing u with
  | nil => exact ⟨start, .refl u g⟩
  | cons b bs ih =>
    obtain ⟨keeps, quiet⟩ := each u b List.mem_cons_self start
    obtain ⟨keepsAll, quietAll⟩ := ih (fun v c mem => each v c (List.mem_cons_of_mem _ mem)) keeps
    exact ⟨keepsAll, quiet.quiet quietAll⟩

end State

/-! ### Who is told of a check -/

/-- No check of the lane tells host `g` anything: the lane is a stranger's, or is not watched. -/
def Lane.deafTo (x : Lane) (g : HostId) : Prop :=
  (x.holder ≠ some g ∧ x.offer.map (·.target) ≠ some g) ∨ x.watched = false

theorem Lane.compare_of_match {x : Lane} {f : Word32} {p : Nat} {bit : Bool}
    (matched : ¬ (x.watched = true ∧ x.pin ≠ bit)) : Lane.compare l f p bit x = (x, []) := by
  unfold Lane.compare
  exact if_neg (by simpa using matched)

theorem Lane.compare_of_mismatch {x : Lane} {f : Word32} {p : Nat} {bit : Bool}
    (watched : x.watched = true) (mismatch : x.pin ≠ bit) :
    Lane.compare l f p bit x = x.fault l f p bit := by
  unfold Lane.compare
  exact if_pos (by simp [watched, mismatch])

/-- A fault leaves the lane as `faulted` describes it, where its offer field is as R120 states. -/
theorem Lane.fault_fst (x : Lane) (own : laneOwnershipOk x.toLaneRecord) (f : Word32) (p : Nat)
    (bit : Bool) : (x.fault l f p bit).1 = faulted x f p bit := by
  obtain ⟨-, offerField⟩ := own
  unfold Lane.fault faulted
  cases state : x.state <;> rcases offer : x.offer with _ | o <;>
    simp_all [offerOk, Lane.offerEnded]

theorem Lane.fault_snd_of_not_offered {x : Lane} (state : x.state ≠ .offered) (f : Word32) (p : Nat)
    (bit : Bool) :
    (x.fault l f p bit).2 = x.holder.toList.map fun g => (g, .laneFault l (x.faultCount + 1)) := by
  unfold Lane.fault
  dsimp only
  split
  · exact absurd ‹_› state
  · rfl

theorem Lane.fault_snd_of_offered {x : Lane} {o : Offer} (state : x.state = .offered)
    (offer : x.offer = some o) (f : Word32) (p : Nat) (bit : Bool) :
    (x.fault l f p bit).2 =
      (x.holder.toList.map fun g => (g, .laneFault l (x.faultCount + 1))) ++
        (x.holder.toList.map fun g => (g, .offerEnded l .fault)) ++
          [(o.target, .offerEnded l .fault)] := by
  simp only [Lane.fault, state, offer]

theorem offerOk_offered {x : LaneRecord} (own : laneOwnershipOk x) (state : x.state = .offered) :
    ∃ o n, x.offer = some o ∧ o.remaining = some n ∧ 1 ≤ n ∧ n ≤ 64 ∧ x.holder ≠ some o.target := by
  obtain ⟨-, offerField⟩ := own
  rw [state] at offerField
  rcases offer : x.offer with _ | ⟨t, _ | n⟩
  · simp [offerOk, offer] at offerField
  · simp [offerOk, offer] at offerField
  · simp only [offerOk, offer, Bool.and_eq_true, decide_eq_true_eq, bne_iff_ne] at offerField
    exact ⟨_, n, rfl, rfl, offerField.1.1, offerField.1.2, offerField.2⟩

theorem offerOk_handover {x : LaneRecord} (own : laneOwnershipOk x) (state : x.state = .handover) :
    ∃ t, x.offer = some ⟨t, none⟩ ∧ x.holder ≠ some t := by
  obtain ⟨-, offerField⟩ := own
  rw [state] at offerField
  rcases offer : x.offer with _ | ⟨t, _ | n⟩
  · simp [offerOk, offer] at offerField
  · exact ⟨t, rfl, by simpa [offerOk, offer] using offerField⟩
  · simp [offerOk, offer] at offerField

/-- Outside OFFERED and HANDOVER no offer stands. -/
theorem offer_eq_none {x : LaneRecord} (own : laneOwnershipOk x) (notOffered : x.state ≠ .offered)
    (notHandover : x.state ≠ .handover) : x.offer = none := by
  obtain ⟨-, offerField⟩ := own
  cases state : x.state <;> simp_all [offerOk]

/-- Of a fault the holder is told, and of an offered lane giver and target after it. -/
theorem Lane.fault_told (x : Lane) (own : laneOwnershipOk x.toLaneRecord) (f : Word32) (p : Nat)
    (bit : Bool) (g : HostId) :
    State.postsFor g (x.fault l f p bit).2 = faultTold l x.toLaneRecord g := by
  unfold faultTold
  by_cases state : x.state = .offered
  · obtain ⟨o, n, offer, -, -, -, other⟩ := offerOk_offered own state
    rw [Lane.fault_snd_of_offered state offer, State.postsFor_append, State.postsFor_append,
      State.postsFor_toList, State.postsFor_toList, State.postsFor_singleton, List.append_assoc]
    by_cases giver : x.holder = some g
    · have notTarget : o.target ≠ g := fun same => other (giver.trans (by rw [same]))
      simp [giver, state, notTarget]
    · simp [giver, state, offer]
  · rw [Lane.fault_snd_of_not_offered state, State.postsFor_toList]
    simp [state]

/-- A comparison tells nobody but the holder and the target of an offer. -/
theorem Lane.compare_quiet {x : Lane} (deaf : x.deafTo g) (f : Word32) (p : Nat) (bit : Bool) :
    State.postsFor g (Lane.compare l f p bit x).2 = [] := by
  by_cases fault : x.watched = true ∧ x.pin ≠ bit
  · rw [Lane.compare_of_mismatch fault.1 fault.2]
    obtain ⟨notHolder, notTarget⟩ := deaf.resolve_right (by simp [fault.1])
    unfold Lane.fault
    dsimp only
    split
    · rename_i o _ offer
      have notTarget : o.target ≠ g := by simpa [offer] using notTarget
      simp [State.postsFor_append, State.postsFor_toList, State.postsFor_singleton, notHolder, notTarget]
    · simp [State.postsFor_toList, notHolder]
  · rw [Lane.compare_of_match fault]
    rfl

/-- A comparison leaves the holder, and no new target of an offer. -/
theorem Lane.compare_deafTo {x : Lane} (deaf : x.deafTo g) (f : Word32) (p : Nat) (bit : Bool) :
    (Lane.compare l f p bit x).1.deafTo g := by
  by_cases fault : x.watched = true ∧ x.pin ≠ bit
  · rw [Lane.compare_of_mismatch fault.1 fault.2]
    obtain ⟨notHolder, notTarget⟩ := deaf.resolve_right (by simp [fault.1])
    unfold Lane.fault
    dsimp only
    split
    · exact .inl ⟨notHolder, by simp [Lane.offerEnded]⟩
    · exact .inl ⟨notHolder, notTarget⟩
  · rw [Lane.compare_of_match fault]
    exact deaf

theorem Lane.watched_arrive (x : Lane) (p : Nat) (cues : List Cue) :
    (x.arrive p cues).watched = x.watched := by
  rw [Lane.arrive_eq]
  rfl

theorem Lane.arrive_deafTo {x : Lane} (deaf : x.deafTo g) (p : Nat) (cues : List Cue) :
    (x.arrive p cues).deafTo g := by
  rw [Lane.arrive_eq]
  exact deaf

theorem Lane.takeDue_deafTo {x : Lane} (deaf : x.deafTo g) : x.takeDue.deafTo g := by
  unfold Lane.takeDue
  split
  · exact deaf
  · exact deaf

/-! ### What an arrival tells a host -/

namespace State

variable {i : ArrivalIn} {r : ArrivalReaction}

/-- The state during an arrival at which no check but those of the lanes `loud` tells host `g` anything. -/
def CalmArrival (s : State) (i : ArrivalIn) (g : HostId) (loud : LaneId → Prop) (u : State) : Prop :=
  s.Arriving i u ∧ ∀ l ∈ s.dueChecks, ¬ loud l → (u.lane l).deafTo g

variable {loud : LaneId → Prop}

theorem CalmArrival.react (calm : s.CalmArrival i g loud u) (r : ArrivalReaction) :
    s.CalmArrival i g loud (u.reactArrival s.dueChecks r) := by
  refine ⟨calm.1.react s.dueChecks r, fun l due quiet => ?_⟩
  have deaf := calm.2 l due quiet
  by_cases drive : r = .drive l
  · rw [drive, lane_reactArrival_drive calm.1]
    exact Lane.arrive_deafTo deaf _ _
  · by_cases check : r = .check l
    · rw [check, lane_reactArrival_check calm.1, State.afterCheck]
      split
      · exact Lane.compare_deafTo deaf _ _ _
      · exact deaf
    · rwa [lane_reactArrival_other drive check]

theorem tells_reactArrival_drive (due : List LaneId) (u : State) (l : LaneId) (g : HostId) :
    u.Tells g [] (u.reactArrival due (.drive l)) := .of_port rfl rfl

theorem tells_reactArrival_check (now : s.Arriving i u) (l : LaneId) (g : HostId) :
    u.Tells g
      (if (s.lane l).check = some 0 then
        postsFor g
          (Lane.compare l s.timebase.frame s.timebase.position (i.rbk.getLsbD l.val) (u.lane l)).2
      else []) (u.reactArrival s.dueChecks (.check l)) := by
  simp only [State.reactArrival, State.mem_dueChecks]
  split
  · rw [State.checkLane, now.timebase, now.rbk]
    exact tells_reactLane _ _ _ _
  · exact .refl u g

theorem tells_reactArrival_notes (now : s.Arriving i u) (due : List LaneId) (h g : HostId) :
    u.Tells g (if h = g then notesTold s g else []) (u.reactArrival due (.notes h)) := by
  have told := tells_postAll u
    (((u.dueCues h).filter fun c => c.action == .note).map fun c => (h, .cueReached c.tag)) g
  have dueCues := State.dueCues_congr now.hosts now.timebase h
  split
  · rename_i same
    subst same
    rw [postsFor_map_self] at told
    rw [notesTold, ← dueCues]
    exact told
  · rename_i other
    have nobody : ∀ p ∈ ((u.dueCues h).filter fun c => c.action == .note).map fun c =>
        (h, NoticeBody.cueReached c.tag), p.1 ≠ g := by
      intro p mem
      obtain ⟨c, -, rfl⟩ := List.mem_map.1 mem
      exact other
    rw [postsFor_eq_nil nobody] at told
    exact told

/-- A reaction that is neither the notes of host `g` nor a loud check tells it nothing. -/
theorem CalmArrival.tells_nothing (calm : s.CalmArrival i g loud u)
    (notes : r = .notes g → notesTold s g = []) (quiet : ∀ k, r = .check k → ¬ loud k) :
    u.Tells g [] (u.reactArrival s.dueChecks r) := by
  cases r with
  | drive l => exact tells_reactArrival_drive _ _ _ _
  | notes h =>
    have told := tells_reactArrival_notes calm.1 s.dueChecks h g
    by_cases own : h = g
    · rwa [notes (by rw [own]), ite_self] at told
    · rwa [if_neg own] at told
  | check l =>
    have told := tells_reactArrival_check calm.1 l g
    by_cases due : (s.lane l).check = some 0
    · rwa [if_pos due, Lane.compare_quiet (calm.2 l (mem_dueChecks.2 due) (quiet l rfl))] at told
    · rwa [if_neg due] at told

theorem calmArrival_base (deaf : ∀ l, (s.lane l).check = some 0 → ¬ loud l → (s.lane l).deafTo g) :
    s.CalmArrival i g loud (s.arrivalBase i) := by
  refine ⟨s.arriving_base i, fun l due quiet => ?_⟩
  rw [lane_arrivalBase]
  exact Lane.takeDue_deafTo (deaf l (mem_dueChecks.1 due) quiet)

theorem CalmArrival.foldl {rs : List ArrivalReaction} (calm : s.CalmArrival i g loud u)
    (notes : .notes g ∈ rs → notesTold s g = []) (quiet : ∀ k, .check k ∈ rs → ¬ loud k) :
    s.CalmArrival i g loud (rs.foldl (State.reactArrival s.dueChecks) u) ∧
      u.Tells g [] (rs.foldl (State.reactArrival s.dueChecks) u) :=
  foldl_tells_nothing (P := s.CalmArrival i g loud) (fun _ r mem calm =>
    ⟨calm.react r, calm.tells_nothing (fun same => notes (same ▸ mem)) fun k same => quiet k (same ▸ mem)⟩)
    calm

/-- Where no check tells host `g` anything, an arrival tells it of its due NOTE cues and of nothing
else (R115). -/
theorem tells_arrive (i : ArrivalIn) (deaf : ∀ l, (s.lane l).check = some 0 → (s.lane l).deafTo g) :
    s.Tells g (notesTold s g) (s.arrive i) := by
  obtain ⟨before, after, -, -, -, notBefore, notAfter, -, arrive⟩ :=
    s.arrive_split i (.notes g) (notes_mem_everyArrivalReaction g)
  have base : s.CalmArrival i g (fun _ => False) (s.arrivalBase i) :=
    calmArrival_base fun l due _ => deaf l due
  obtain ⟨calm, first⟩ := base.foldl (rs := before) (fun mem => absurd mem notBefore) fun _ _ => id
  have notes := tells_reactArrival_notes calm.1 s.dueChecks g g
  obtain ⟨-, last⟩ := (calm.react (.notes g)).foldl (rs := after) (fun mem => absurd mem notAfter)
    fun _ _ => id
  rw [if_pos rfl] at notes
  have start : s.Tells g [] (s.arrivalBase i) := .of_port rfl rfl
  rw [arrive]
  exact start.quiet (first.quiet (notes.then_quiet last))

/-- Where one check is due that can tell host `g` something, and the host has no due NOTE cue, an arrival
tells it what that check does. -/
theorem tells_arrive_check (i : ArrivalIn) (l : LaneId) (due : (s.lane l).check = some 0)
    (alone : ∀ k, k ≠ l → (s.lane k).check = some 0 → (s.lane k).deafTo g) (noNotes : notesTold s g = []) :
    s.Tells g
      (postsFor g
        (Lane.compare l s.timebase.frame s.timebase.position (i.rbk.getLsbD l.val)
          (if changeFirst i.order l = true then s.afterDrive l (s.lane l).takeDue
          else (s.lane l).takeDue)).2)
      (s.arrive i) := by
  obtain ⟨before, after, order, nodup, -, notBefore, notAfter, -, arrive⟩ :=
    s.arrive_split i (.check l) (check_mem_everyArrivalReaction l)
  have first : changeFirst i.order l = true ↔ .drive l ∈ before := by
    rw [changeFirst_iff, order, before_split notBefore]
  have base : s.CalmArrival i g (· = l) (s.arrivalBase i) :=
    calmArrival_base fun k due other => alone k other due
  have away {rs : List ArrivalReaction} (fresh : .check l ∉ rs) (k : LaneId) (mem : .check k ∈ rs) :
      ¬ k = l := fun same => fresh (same ▸ mem)
  obtain ⟨calm, start⟩ := base.foldl (fun _ => noNotes) (away notBefore)
  have check := tells_reactArrival_check calm.1 l g
  rw [if_pos due, lane_foldl_reactArrival (s.arriving_base i) nodup notBefore, lane_arrivalBase] at check
  obtain ⟨-, last⟩ := (calm.react (.check l)).foldl (fun _ => noNotes) (away notAfter)
  simp only [first]
  have begin : s.Tells g [] (s.arrivalBase i) := .of_port rfl rfl
  rw [arrive]
  exact begin.quiet (start.quiet (check.then_quiet last))

end State

end Sys2Proof.Machine
end

section
/-!
PROOFS. The statements about arrivals: what an arrival leaves, the cues that start, and the level that
the drivers give a lane (R16 to R20, R112 to R116).
-/

namespace Sys2Proof.Machine

open Sys2Proof.Safety

variable {s t u : State} {l : LaneId} {g : HostId}

/-! ### Which cues start -/

theorem State.startingOn_base_congr (hosts : t.hosts = s.hosts) (timebase : t.timebase = s.timebase)
    (l : LaneId) (x : Lane) : t.startingOn l x = s.startingOn l x := by
  have same := State.starting_eq (s := s) (t := t.setLane l x) hosts timebase l
  rwa [State.lane_setLane_self] at same

theorem Cue.fits_iff (c : Cue) (f : Nat) (lane : c.lane? ≠ none) :
    c.fits f = true ↔ c.offset < f ∧ ∀ w ∈ pulseWidth c, c.offset + w ≤ f := by
  rcases c with ⟨action, offset, every, phase, tag⟩
  cases action <;> simp_all [Cue.fits, Cue.lane?, pulseWidth]

theorem State.mem_startingOn (s : State) (l : LaneId) (x : Lane) (c : Cue) :
    c ∈ s.startingOn l x ↔
      x.state.working = true ∧ x.faultFlag = false ∧ c.lane? = some l ∧ c.fits s.timebase.f = true ∧
        ∃ g ∈ x.holder, c ∈ s.dueCues g := by
  have due (h : HostId) : (s.setLane l x).dueCues h = s.dueCues h := State.dueCues_congr rfl rfl h
  simp only [State.startingOn, State.starting, State.lane_setLane_self, due, State.setLane_timebase]
  cases x.holder with
  | none => simp
  | some h =>
    have gate : (x.state.working && !x.faultFlag) = true ↔
        x.state.working = true ∧ x.faultFlag = false := by simp
    by_cases works : x.state.working = true ∧ x.faultFlag = false
    · dsimp only
      rw [if_pos (gate.2 works), List.mem_filter, Bool.and_eq_true, beq_iff_eq]
      simp only [works.1, works.2, true_and, Option.mem_some_iff, exists_eq_left']
      tauto
    · dsimp only
      rw [if_neg fun open' => works (gate.1 open')]
      simp only [List.not_mem_nil, false_iff]
      tauto

theorem LaneState.working_iff (st : LaneState) :
    st.working = true ↔ st ∈ [LaneState.held, .offered, .handover] := by cases st <;> decide

/-- A cue that starts on a lane has that lane. -/
theorem State.lane_of_mem_startingOn {x : Lane} {c : Cue} (mem : c ∈ s.startingOn l x) :
    c.lane? = some l := ((s.mem_startingOn l x c).1 mem).2.2.1

/-- Settles O34. -/
theorem cuesDueAndStarting : Obligations.CuesDueAndStarting := by
  intro s h l c
  refine ⟨fun none => by simp [State.dueCues, none], fun b active order list => ?_, ?_⟩
  · have active : (s.run h).active = some b := active
    have list : (s.book h b).runList = some order := list
    simp only [State.dueCues, active, Book.inRunOrder, list, Option.getD_some]
    rfl
  · rw [State.starting_self, State.mem_startingOn, LaneState.working_iff]
    refine and_congr_right fun _ => and_congr_right fun _ => and_congr_right fun lane => ?_
    rw [Cue.fits_iff c _ (by simp [lane]), and_assoc]

/-! ### The level that the drivers give -/

/-- The last cue that starts decides, where each of them has a lane. -/
theorem foldl_driven_getLast {p : Nat} {cues : List Cue} {c : Cue} (last : c ∈ cues.getLast?)
    (lane : c.lane? ≠ none) (now : Bool × Option Nat) :
    cues.foldl (fun now c => c.action.driven p now) now = c.action.driven p (false, none) := by
  obtain ⟨front, rfl⟩ := List.mem_getLast?_eq_getLast last |>.elim fun ne eq =>
    (⟨cues.dropLast, by rw [eq]; exact (List.dropLast_append_getLast ne).symm⟩ :
      ∃ front, cues = front ++ [c])
  rw [List.foldl_append, List.foldl_cons, List.foldl_nil]
  cases action : c.action <;> simp_all [Action.driven, Cue.lane?]

/-- What the drivers set at an arrival is what `drivenTo` says (R16 to R19, R114). -/
theorem foldl_driven_eq_drivenTo (s : State) (l : LaneId) :
    (s.starting l).foldl (fun now c => c.action.driven s.timebase.position now)
      ((s.lane l).afterPulseEnd s.timebase.position) = drivenTo s l := by
  unfold drivenTo
  cases last : (s.starting l).getLast? with
  | none =>
    rw [List.getLast?_eq_none_iff.1 last]
    rfl
  | some c =>
    have mem : c ∈ s.startingOn l (s.lane l) :=
      State.starting_self s l ▸ List.mem_of_getLast? last
    have lane := State.lane_of_mem_startingOn mem
    rw [foldl_driven_getLast last (by simp [lane])]
    cases action : c.action <;> simp_all [Action.driven, Cue.lane?]

/-- A lane that is driven, with what the drivers set. -/
theorem State.afterDrive_self (s : State) (l : LaneId) :
    s.afterDrive l (s.lane l) =
      { s.lane l with
        level := (drivenTo s l).1, pulseEnd := (drivenTo s l).2
        check :=
          if (drivenTo s l).1 ≠ (s.lane l).level ∧ (s.lane l).watched = true then
            some (s.lane l).settings.settle
          else (s.lane l).check } := by
  rw [State.afterDrive, Lane.arrive_eq, ← State.starting_self, foldl_driven_eq_drivenTo]

/-- Only the level and the pulse end of a lane, its pending check aside, depend on the drivers. -/
theorem State.afterDrive_congr {x : Lane} (hosts : t.hosts = s.hosts) (timebase : t.timebase = s.timebase)
    {check : Option Nat} :
    t.afterDrive l { x with check := check } =
      { s.afterDrive l x with
        check :=
          if (s.afterDrive l x).level ≠ x.level ∧ x.watched = true then some x.settings.settle
          else check } := by
  have starting : t.startingOn l { x with check := check } = s.startingOn l x := by
    rw [State.startingOn_base_congr hosts timebase]
    exact State.startingOn_congr rfl rfl rfl
  rw [State.afterDrive, State.afterDrive, starting, timebase, Lane.arrive_eq, Lane.arrive_eq]
  rfl

/-! ### The tick of an arrival -/

/-- The state that the tick of an arrival below F begins with: the position advanced, every pending
check reduced (R1, R137). -/
def State.ticked (s : State) : State :=
  (s.setTimebase { s.timebase with position := s.timebase.position + 1, fmark := false }).mapLanes
    Lane.tick

theorem State.plainTick_eq (s : State) (i : ArrivalIn) : s.plainTick i = s.ticked.arrive i := rfl

theorem State.ticked_hosts (s : State) : s.ticked.hosts = (atNext s).hosts := rfl

theorem State.ticked_timebase (s : State) : s.ticked.timebase = (atNext s).timebase := rfl

theorem State.lane_ticked (s : State) (l : LaneId) :
    s.ticked.lane l = { (atNext s).lane l with check := (s.lane l).check.map (· - 1) } := by
  simp only [State.ticked, State.lane_mapLanes]
  rfl

/-- The pending check of the lane does not fall due at the next tick. -/
theorem notDue_of_two_le {check : Option Nat} (later : ∀ n ∈ check, 2 ≤ n) :
    check.map (· - 1) ≠ some 0 := by
  intro due
  obtain ⟨n, pending, zero⟩ := Option.map_eq_some_iff.1 due
  have := later n pending
  omega

/-- A lane at an arrival at which no check of it falls due (R16 to R20, R137). -/
theorem State.lane_plainTick (i : ArrivalIn) (later : ∀ n ∈ (s.lane l).check, 2 ≤ n) :
    (s.plainTick i).lane l =
      { s.lane l with
        level := (drivenTo (atNext s) l).1, pulseEnd := (drivenTo (atNext s) l).2
        check := checkAfter (s.lane l) (drivenTo (atNext s) l).1 } := by
  have notDue : (s.ticked.lane l).check ≠ some 0 := by
    rw [State.lane_ticked]
    exact notDue_of_two_le later
  rw [State.plainTick_eq, State.lane_arrive_unchecked i notDue, State.lane_ticked,
    State.afterDrive_congr s.ticked_hosts s.ticked_timebase, State.afterDrive_self]
  have change : (drivenTo (atNext s) l).1 ≠ (s.lane l).level ↔
      (s.lane l).level ≠ (drivenTo (atNext s) l).1 := ne_comm
  simp only [checkAfter, ← change]
  rfl

theorem exec_arrival_next (i : ArrivalIn) (next : arrivalNext s) :
    exec (.arrival i) s = .next (s.plainTick i) := by
  change execArrival i s = _
  rw [execArrival, if_pos (s.atArrival_iff.2 next)]

/-- What the drivers set where no cue starts. -/
theorem drivenTo_of_none (none : s.starting l = []) :
    drivenTo s l =
      if (s.lane l).pulseEnd = some s.timebase.position then (false, .none)
      else ((s.lane l).level, (s.lane l).pulseEnd) := by
  simp [drivenTo, none]

/-- Settles O33. -/
theorem arrivalLanes : Obligations.ArrivalLanes := by
  intro i l s next later
  have becomes (d : Bool × Option Nat) (driven : drivenTo (atNext s) l = d) :
      ∃ t : State, exec (.arrival i) s = .next t ∧
        t.lane l =
          { s.lane l with level := d.1, pulseEnd := d.2, check := checkAfter (s.lane l) d.1 } :=
    ⟨_, exec_arrival_next i next, driven ▸ State.lane_plainTick i later⟩
  refine ⟨fun none ends => becomes (false, .none) ?_, fun none runs => becomes (_, _) ?_,
    fun c last => ?_⟩
  · rw [drivenTo_of_none none]
    exact if_pos ends
  · rw [drivenTo_of_none none]
    exact if_neg runs
  · have action (d : Bool × Option Nat)
        (drives : ∀ now, c.action.driven (s.timebase.position + 1) now = d) : drivenTo (atNext s) l = d := by
      have mem : c ∈ (atNext s).startingOn l ((atNext s).lane l) :=
        State.starting_self (atNext s) l ▸ List.mem_of_getLast? last
      rw [← foldl_driven_eq_drivenTo, foldl_driven_getLast last
        (by simp [State.lane_of_mem_startingOn mem])]
      exact drives _
    refine ⟨fun ⟨k, rise⟩ => becomes (true, .none) (action _ fun _ => by rw [rise]; rfl),
      fun ⟨k, fall⟩ => becomes (false, .none) (action _ fun _ => by rw [fall]; rfl),
      fun w width => becomes (true, _) (action _ fun _ => ?_)⟩
    cases kind : c.action <;> simp_all [pulseWidth, Action.driven]

/-! ### What an arrival keeps of a lane -/

theorem sameHolding_refl (x : LaneRecord) : sameHolding x x := ⟨rfl, rfl, rfl⟩

theorem sameHolding_trans {x y z : LaneRecord} (first : sameHolding x y) (second : sameHolding y z) :
    sameHolding x z :=
  ⟨second.1.trans first.1, second.2.1.trans first.2.1, second.2.2.trans first.2.2⟩

theorem sameHolding_arrive (x : Lane) (p : Nat) (cues : List Cue) :
    sameHolding x.toLaneRecord (x.arrive p cues).toLaneRecord := by
  rw [Lane.arrive_eq]
  exact sameHolding_refl _

theorem sameHolding_fault (x : Lane) (f : Word32) (p : Nat) (bit : Bool) :
    sameHolding x.toLaneRecord (x.fault l f p bit).1.toLaneRecord := by
  unfold Lane.fault
  dsimp only
  split <;> exact sameHolding_refl _

theorem sameHolding_compare (x : Lane) (f : Word32) (p : Nat) (bit : Bool) :
    sameHolding x.toLaneRecord (Lane.compare l f p bit x).1.toLaneRecord := by
  unfold Lane.compare
  split
  · exact sameHolding_fault x f p bit
  · exact sameHolding_refl _

theorem sameHolding_afterCheck (i : ArrivalIn) (x : Lane) :
    sameHolding x.toLaneRecord (s.afterCheck i l x).toLaneRecord := by
  unfold State.afterCheck
  split
  · exact sameHolding_compare x _ _ _
  · exact sameHolding_refl _

theorem sameHolding_takeDue (x : Lane) : sameHolding x.toLaneRecord x.takeDue.toLaneRecord := by
  unfold Lane.takeDue
  split <;> exact sameHolding_refl _

/-- An arrival leaves a lane its holder and its settings. -/
theorem State.sameHolding_arrive (s : State) (i : ArrivalIn) (l : LaneId) :
    sameHolding (s.lane l).toLaneRecord ((s.arrive i).lane l).toLaneRecord := by
  rw [State.lane_arrive]
  split
  · exact sameHolding_trans (sameHolding_takeDue _)
      (sameHolding_trans (Machine.sameHolding_arrive _ _ _) (sameHolding_afterCheck i _))
  · exact sameHolding_trans (sameHolding_takeDue _)
      (sameHolding_trans (sameHolding_afterCheck i _) (Machine.sameHolding_arrive _ _ _))

theorem State.sameHolding_plainTick (s : State) (i : ArrivalIn) (l : LaneId) :
    sameHolding (s.lane l).toLaneRecord ((s.plainTick i).lane l).toLaneRecord := by
  have same := s.ticked.sameHolding_arrive i l
  rwa [State.lane_ticked] at same

theorem notesTold_congr (hosts : t.hosts = s.hosts) (timebase : t.timebase = s.timebase) (g : HostId) :
    notesTold t g = notesTold s g := by
  rw [notesTold, notesTold, State.dueCues_congr hosts timebase]

/-- Settles O32. -/
theorem arrivalTick : Obligations.ArrivalTick := by
  intro i s next
  refine ⟨_, exec_arrival_next i next, ?_, ?_, ?_, ?_, ?_, ?_, ?_, ?_,
    fun g => ((s.noticed_plainTick i).port g).same,
    fun l => ⟨s.sameHolding_plainTick i l, fun later => by rw [State.lane_plainTick i later]⟩,
    fun later g => ?_⟩
  · exact (State.arrive_rstN s.ticked i).trans next.1
  · exact State.arrive_rbk s.ticked i
  · exact State.arrive_lastServed s.ticked i
  · exact State.arrive_pending s.ticked i
  · exact State.arrive_timebase s.ticked i
  · exact State.arrive_hosts s.ticked i
  · exact State.arrive_jobs s.ticked i
  · exact State.arrive_proposal s.ticked i
  · have told := State.tells_arrive (s := s.ticked) (g := g) i fun l due => by
      rw [State.lane_ticked] at due
      exact absurd due (notDue_of_two_le (later l))
    rw [notesTold_congr s.ticked_hosts s.ticked_timebase] at told
    exact told.port

/-! ### A check at an arrival -/

theorem Lane.fault_level (x : Lane) (f : Word32) (p : Nat) (bit : Bool) :
    (x.fault l f p bit).1.level = false ∧ (x.fault l f p bit).1.pulseEnd = none ∧
      (x.fault l f p bit).1.faultFlag = true := by
  unfold Lane.fault
  dsimp only
  split <;> exact ⟨rfl, rfl, rfl⟩

/-- A check leaves the lane, or leaves it inactive and faulted. -/
theorem State.afterCheck_cases (s : State) (i : ArrivalIn) (l : LaneId) (x : Lane) :
    s.afterCheck i l x = x ∨
      (s.afterCheck i l x).level = false ∧ (s.afterCheck i l x).pulseEnd = none ∧
        (s.afterCheck i l x).faultFlag = true := by
  unfold State.afterCheck
  split
  · unfold Lane.compare
    split
    · exact .inr (Lane.fault_level x _ _ _)
    · exact .inl rfl
  · exact .inl rfl

/-- On a faulted lane no cue starts (R113). -/
theorem State.startingOn_faulted {x : Lane} (flag : x.faultFlag = true) : s.startingOn l x = [] := by
  refine List.eq_nil_iff_forall_not_mem.2 fun c mem => ?_
  have sound := ((s.mem_startingOn l x c).1 mem).2.1
  rw [flag] at sound
  cases sound

theorem State.afterDrive_of_none {x : Lane} (none : s.startingOn l x = []) :
    (s.afterDrive l x).level = (x.afterPulseEnd s.timebase.position).1 ∧
      (s.afterDrive l x).pulseEnd = (x.afterPulseEnd s.timebase.position).2 := by
  rw [State.afterDrive, none, Lane.arrive_eq]
  exact ⟨rfl, rfl⟩

theorem State.startingOn_takeDue (s : State) (l : LaneId) (x : Lane) :
    s.startingOn l x.takeDue = s.startingOn l x := by
  unfold Lane.takeDue
  split
  · exact State.startingOn_congr rfl rfl rfl
  · rfl

/-- A pulse end that is reached, and no cue that starts: the lane is inactive after the arrival,
whatever check is made at it. -/
theorem State.arrive_ends (s : State) (i : ArrivalIn) (l : LaneId)
    (none : s.startingOn l (s.lane l) = [])
    (ends : (s.lane l).pulseEnd = some s.timebase.position ∨
      (s.lane l).level = false ∧ (s.lane l).pulseEnd = .none) :
    ((s.arrive i).lane l).level = false ∧ ((s.arrive i).lane l).pulseEnd = .none := by
  have inactive {x : Lane} (starts : s.startingOn l x = [])
      (ends : x.pulseEnd = some s.timebase.position ∨ x.level = false ∧ x.pulseEnd = .none) :
      (s.afterDrive l x).level = false ∧ (s.afterDrive l x).pulseEnd = .none := by
    rw [(State.afterDrive_of_none starts).1, (State.afterDrive_of_none starts).2,
      LaneRecord.afterPulseEnd]
    split
    · exact ⟨rfl, rfl⟩
    · exact ends.resolve_left ‹_›
  have taken : (s.lane l).takeDue.pulseEnd = (s.lane l).pulseEnd ∧
      (s.lane l).takeDue.level = (s.lane l).level := by
    unfold Lane.takeDue
    split <;> exact ⟨rfl, rfl⟩
  have starts : s.startingOn l (s.lane l).takeDue = [] := by rw [State.startingOn_takeDue, none]
  rw [← taken.1, ← taken.2] at ends
  rw [State.lane_arrive]
  split
  · rcases s.afterCheck_cases i l (s.afterDrive l (s.lane l).takeDue) with same | ⟨level, pulse, -⟩
    · rw [same]
      exact inactive starts ends
    · exact ⟨level, pulse⟩
  · rcases s.afterCheck_cases i l (s.lane l).takeDue with same | ⟨level, pulse, flag⟩
    · rw [same]
      exact inactive starts ends
    · exact inactive (State.startingOn_faulted flag) (.inr ⟨level, pulse⟩)

end Sys2Proof.Machine
end

section
/-!
PROOFS. What each event of the part can make of one lane (R21 to R35, R121 to R142).
-/

namespace Sys2Proof.Machine

open Sys2Proof.Safety

variable {s t : State} {h : HostId} {l : LaneId}

/-! ### Requests -/

@[simp] theorem State.agree_lanes (s : State) (p : Proposal) : (s.agree p).lanes = s.lanes := by
  simp [State.agree, State.recordAgreed]

@[simp] theorem State.clearProposal_lanes (s : State) : s.clearProposal.lanes = s.lanes := by
  unfold State.clearProposal
  split
  · dsimp only
    split <;> rfl
  · rfl

theorem State.lane_congr (lanes : t.lanes = s.lanes) (l : LaneId) : t.lane l = s.lane l := by
  simp [State.lane, lanes]

/-- What an answered request can make of a lane. -/
inductive LaneEffect (h : HostId) (x : Lane) : Lane → Prop where
  | same : LaneEffect h x x
  | granted (free : x.state = .free) : LaneEffect h x (x.granted h)
  | move {y : Lane} (move : LaneMove h x y) : LaneEffect h x y

theorem OwnerEffect.lane_effect (effect : OwnerEffect h s t) (l : LaneId) :
    LaneEffect h (s.lane l) (t.lane l) := by
  have kept (lanes : t.lanes = s.lanes) : LaneEffect h (s.lane l) (t.lane l) := by
    rw [State.lane_congr lanes]
    exact .same
  cases effect with
  | unchanged => exact .same
  | granted m free =>
    have lane : (s.grant h (lanesOfMask m)).lane l =
        if l ∈ lanesOfMask m then (s.lane l).granted h else s.lane l := by
      rw [State.grant_eq]
      simp [State.lane]
    rw [lane]
    split
    · exact .granted (free l ((mem_lanesOfMask m l).1 ‹_›))
    · exact .same
  | lane k x ps move =>
    rw [State.lane_postAll, State.lane_setLane]
    split
    · rename_i same
      exact .move (same ▸ move)
    · exact .same
  | host => exact kept rfl
  | compile => exact kept rfl
  | abort => exact kept rfl
  | propose => exact kept (by simp)
  | proposeAgreed => exact kept (by simp)
  | vote => exact kept rfl
  | voteAgreed => exact kept (by simp)
  | ended => exact kept (by simp [State.endProposal])

/-! ### Resets -/

@[simp] theorem State.agreementReset_lanes (s : State) (h : HostId) :
    (s.agreementReset h).lanes = s.lanes := by
  unfold State.agreementReset
  split
  · rfl
  · split
    · simp
    · split
      · dsimp only
        split <;> simp
      · rfl

/-- A reaction on one lane leaves which ports are held in reset. -/
theorem State.held_noticed {s t : State} (noticed : s.Noticed t) (g : HostId) :
    (t.port g).held = (s.port g).held := (noticed.port g).same.2.2.2.1

theorem State.giverHeld_congr (lane : t.lane l = s.lane l) (held : ∀ g, (t.port g).held = (s.port g).held) :
    t.giverHeld l = s.giverHeld l := by
  simp only [State.giverHeld, lane, held]

/-- Resetting lanes one after another resets each of them once. -/
theorem State.lane_foldl_reset {ls : List LaneId} (nodup : ls.Nodup) (s : State) (h : HostId)
    (l : LaneId) :
    (ls.foldl (fun s l => s.reactLane l (Lane.atPortReset l h (s.giverHeld l))) s).lane l =
      if l ∈ ls then (Lane.atPortReset l h (s.giverHeld l) (s.lane l)).1 else s.lane l := by
  induction ls generalizing s with
  | nil => simp
  | cons k ls ih =>
    obtain ⟨fresh, nodup⟩ := List.nodup_cons.1 nodup
    rw [List.foldl_cons, ih nodup, State.lane_reactLane]
    by_cases same : l = k
    · subst same
      simp [fresh]
    · have giver := State.giverHeld_congr (s := s) (l := l)
        (t := s.reactLane k (Lane.atPortReset k h (s.giverHeld k)))
        (by rw [State.lane_reactLane, if_neg same]) (State.held_noticed (State.noticed_reactLane _ _ _))
      rw [giver]
      simp [same]

theorem nodup_allLanes : allLanes.Nodup := List.nodup_finRange 16

theorem State.lane_lanesReset (s : State) (h : HostId) (l : LaneId) :
    (s.lanesReset h).lane l = (Lane.atPortReset l h (s.giverHeld l) (s.lane l)).1 :=
  (State.lane_foldl_reset nodup_allLanes s h l).trans (if_pos (mem_allLanes l))

/-- A lane after a reset of a host's session (R35, R133, R134). -/
theorem State.lane_resetBlocks (s : State) (h : HostId) (first : Bool) (l : LaneId) :
    (s.resetBlocks h first).lane l = (Lane.atPortReset l h (s.giverHeld l) (s.lane l)).1 := by
  have plain : ((s.setHost h .initial).dropJob h).lane l = s.lane l := rfl
  unfold State.resetBlocks
  dsimp only
  split
  · have lane := (State.lane_congr (((s.setHost h .initial).dropJob h).agreementReset_lanes h) l).trans
      plain
    rw [State.lane_lanesReset, lane,
      State.giverHeld_congr (s := s) lane fun g =>
        State.held_noticed (State.noticed_agreementReset _ h) g]
  · rw [State.lane_congr (State.agreementReset_lanes _ h), State.lane_lanesReset]
    rfl

/-! ### Boundaries -/

theorem State.run_react_lanes (c : Crossing) (h : HostId) : (c.run h).state.lanes = c.state.lanes := by
  simp only [Crossing.run]
  split
  · simp
  · split
    · dsimp only
      split <;> simp
    · simp

@[simp] theorem State.endProposal_lanes (s : State) (p : Proposal) (o : ProposalOutcome) :
    (s.endProposal p o).lanes = s.lanes := by simp [State.endProposal]

@[simp] theorem State.proposalBoundary_lanes (s : State) : s.proposalBoundary.1.lanes = s.lanes := by
  unfold State.proposalBoundary
  split
  · rfl
  · split
    · simp
    · dsimp only
      split
      · rfl
      · split <;> simp

/-- The reactions to a boundary other than the two on a lane leave that lane. -/
theorem Crossing.lane_react_other {r : BoundaryReaction} (c : Crossing) (notLane : r ≠ .lane l)
    (notCheck : r ≠ .check l) : (c.react r).state.lane l = c.state.lane l := by
  cases r with
  | lane k =>
    rw [Crossing.react, State.lane_reactLane, if_neg fun same => notLane (by rw [same])]
  | check k =>
    rw [Crossing.react, State.boundaryCheck, State.lane_reactLane,
      if_neg fun same => notCheck (by rw [same])]
  | load h => exact State.lane_congr (State.loadBoundary_lanes _ _) l
  | run h => exact State.lane_congr (State.run_react_lanes c h) l
  | agreement =>
    exact State.lane_congr (by simp [Crossing.react, State.agreementBoundary]) l

theorem Crossing.lane_react_lane (c : Crossing) (l : LaneId) :
    (c.react (.lane l)).state.lane l = (Lane.atBoundary l (c.state.lane l)).1 := by
  rw [Crossing.react, State.lane_reactLane, if_pos rfl]

theorem Crossing.lane_react_check (c : Crossing) (l : LaneId) :
    (c.react (.check l)).state.lane l =
      (Lane.boundaryCheck l c.state.timebase.frame (c.state.rbk.getLsbD l.val) (c.state.lane l)).1 := by
  rw [Crossing.react, State.boundaryCheck, State.lane_reactLane, if_pos rfl]

/-- What the lane table's reaction and the monitor's check keep of a lane, a boundary keeps. -/
theorem State.lane_crossBoundary_keeps {P : Lane → Prop}
    (table : ∀ x, P x → P (Lane.atBoundary l x).1)
    (check : ∀ x f bit, P x → P (Lane.boundaryCheck l f bit x).1) (s : State) (b : BoundaryIn)
    (start : P (s.lane l)) : P ((s.crossBoundary b).lane l) := by
  obtain ⟨c, law, result⟩ := s.crossBoundary_keeps b (fun c => P (c.state.lane l)) (fun c r law => by
    by_cases isLane : r = .lane l
    · rw [isLane, Crossing.lane_react_lane]
      exact table _ law
    · by_cases isCheck : r = .check l
      · rw [isCheck, Crossing.lane_react_check]
        exact check _ _ _ law
      · rwa [Crossing.lane_react_other c isLane isCheck]) start
  rwa [result]

end Sys2Proof.Machine
end

section
/-!
PROOFS. The lane table and the readback monitor: every event of the part keeps their laws (R13, R14,
R120, R131, R136, R140, R141).
-/

namespace Sys2Proof.Machine

open Sys2Proof.Safety

variable {s t : State} {h : HostId} {l : LaneId} {x y : Lane} {k : Nat}

/-- What is kept of one lane, a pending check being at least `k`: 1 between the ticks, 0 while a tick's
arrival is still to take the checks that fall due. -/
structure Lane.Lawful (k : Nat) (x : Lane) : Prop where
  owner : laneOwnershipOk x.toLaneRecord
  fault : laneFaultOk x
  settings : settingsOk x.settings
  pending : ∀ p ∈ x.pending, settingsOk p
  check : ∀ n ∈ x.check, k ≤ n ∧ n ≤ 15 ∧ x.watched = true

theorem lanesKept_iff : lanesKept s ↔ ∀ l, (s.lane l).Lawful 1 := by
  refine ⟨fun ⟨own, fault, check⟩ l => ⟨own l, fault l, (check l).1, (check l).2.1, (check l).2.2⟩,
    fun law => ⟨fun l => (law l).owner, fun l => (law l).fault,
      fun l => ⟨(law l).settings, (law l).pending, (law l).check⟩⟩⟩

namespace Lane

theorem Lawful.sound_of_watched (watched : x.watched = true) : x.faultFlag = false := by
  simpa using (Bool.and_eq_true_iff.1 watched).2

theorem Lawful.holder_of_watched (watched : x.watched = true) : x.holder ≠ none := by
  unfold Lane.watched at watched
  cases holder : x.holder <;> simp_all

/-- A lane without a fault keeps the law whatever its level is, as long as its check is allowed. -/
theorem Lawful.level (law : x.Lawful k) (sound : x.faultFlag = false) {level : Bool}
    {pulseEnd check : Option Nat} (allowed : ∀ n ∈ check, k ≤ n ∧ n ≤ 15 ∧ x.watched = true) :
    ({ x with level := level, pulseEnd := pulseEnd, check := check } : Lane).Lawful k where
  owner := law.owner
  fault := ⟨fun flag => absurd (sound.symm.trans flag) (by decide), law.fault.2⟩
  settings := law.settings
  pending := law.pending
  check := allowed

/-- A check set to the settle in force of a watched lane is allowed. -/
theorem Lawful.settle (law : x.Lawful k) (least : k ≤ 1) (watched : x.watched = true) :
    k ≤ x.settings.settle ∧ x.settings.settle ≤ 15 ∧ x.watched = true := by
  obtain ⟨-, -, low, high⟩ := law.settings
  exact ⟨by omega, high, watched⟩

theorem Lawful.drive {level : Bool} {pulseEnd : Option Nat} (law : x.Lawful k) (least : k ≤ 1)
    (faulted : x.faultFlag = true → level = false ∧ pulseEnd = none) :
    (x.drive level pulseEnd).Lawful k := by
  rw [Lane.drive_eq]
  by_cases flag : x.faultFlag = true
  · obtain ⟨rfl, rfl⟩ := faulted flag
    obtain ⟨inactive, noPulse, -⟩ := law.fault.1 flag
    have unchanged : ¬ (false ≠ x.level ∧ x.watched = true) := fun h => h.1 inactive.symm
    rw [if_neg unchanged, ← inactive, ← noPulse]
    exact law
  · refine law.level (by simpa using flag) fun n pending => ?_
    split at pending
    · rename_i change
      cases pending
      exact law.settle least change.2
    · exact law.check n pending

theorem Lawful.schedule (law : x.Lawful k) (least : k ≤ 1) : x.schedule.Lawful k := by
  unfold Lane.schedule
  split
  · rename_i watched
    refine law.level (pulseEnd := x.pulseEnd) (level := x.level) (Lawful.sound_of_watched watched)
      fun n pending => ?_
    cases pending
    exact law.settle least watched
  · exact law

/-! ### Ticks and arrivals -/

theorem Lawful.tick (law : x.Lawful 1) : x.tick.Lawful 0 where
  owner := law.owner
  fault := by
    obtain ⟨flagged, count⟩ := law.fault
    exact ⟨fun flag => by simpa [Lane.tick] using flagged flag, count⟩
  settings := law.settings
  pending := law.pending
  check := by
    intro n pending
    obtain ⟨m, before, rfl⟩ := Option.map_eq_some_iff.1 pending
    obtain ⟨-, most, watched⟩ := law.check m before
    exact ⟨by omega, by omega, watched⟩

theorem Lawful.fault_without_check (law : x.Lawful k) (flag : x.faultFlag = true) :
    x.level = false ∧ x.pulseEnd = none ∧ (none : Option Nat) = none ∧ x.state ≠ .offered ∧
      x.state ≠ .free := by
  obtain ⟨level, pulse, -, notOffered, notFree⟩ := law.fault.1 flag
  exact ⟨level, pulse, rfl, notOffered, notFree⟩

theorem Lawful.takeDue (law : x.Lawful 0) : x.takeDue.Lawful 1 := by
  unfold Lane.takeDue
  split
  · exact ⟨law.owner, ⟨fun flag => law.fault_without_check flag, law.fault.2⟩, law.settings,
      law.pending, by simp⟩
  · rename_i notDue
    refine ⟨law.owner, law.fault, law.settings, law.pending, fun n pending => ?_⟩
    obtain ⟨-, most, watched⟩ := law.check n pending
    have positive : n ≠ 0 := by
      rintro rfl
      exact notDue pending
    exact ⟨by omega, most, watched⟩

/-- The drivers' work, where no cue starts on a faulted lane. -/
theorem Lawful.arrive (law : x.Lawful k) (least : k ≤ 1) {p : Nat} {cues : List Cue}
    (none : x.faultFlag = true → cues = []) : (x.arrive p cues).Lawful k := by
  refine law.drive least fun flag => ?_
  obtain ⟨inactive, noPulse, -⟩ := law.fault.1 flag
  rw [none flag]
  simp [LaneRecord.afterPulseEnd, noPulse, inactive]

theorem Lawful.compare (law : x.Lawful k) (f : Word32) (p : Nat) (bit : Bool) :
    (Lane.compare l f p bit x).1.Lawful k := by
  by_cases fault : x.watched = true ∧ x.pin ≠ bit
  · rw [Lane.compare_of_mismatch fault.1 fault.2, Lane.fault_fst x law.owner]
    have sound := Lawful.sound_of_watched fault.1
    have holder := Lawful.holder_of_watched fault.1
    have notFree : x.state ≠ .free := fun free => holder (law.owner.1.1 free)
    obtain ⟨-, most, last⟩ := law.fault
    have count : x.faultCount ≠ 3 := fun three => by
      rw [last three] at sound
      cases sound
    have offerField := law.owner.2
    unfold faulted
    refine ⟨⟨?_, ?_⟩, ⟨fun _ => ⟨rfl, rfl, rfl, ?_, ?_⟩, by dsimp only; omega, fun _ => rfl⟩,
      law.settings, law.pending, by simp⟩
    · by_cases offered : x.state = .offered
      · simp [offered, holder]
      · simp [offered, notFree, holder]
    · by_cases offered : x.state = .offered
      · simp [offered, offerOk]
      · simpa [offered] using offerField
    · by_cases offered : x.state = .offered <;> simp [offered]
    · by_cases offered : x.state = .offered <;> simp [offered, notFree]
  · rw [Lane.compare_of_match fault]
    exact law

theorem Lawful.boundaryCheck (law : x.Lawful k) (f : Word32) (bit : Bool) :
    (Lane.boundaryCheck l f bit x).1.Lawful k := by
  unfold Lane.boundaryCheck
  split
  · exact law.compare f 0 bit
  · exact law

/-! ### The lane table at a boundary -/

theorem Lawful.offerEnded (law : x.Lawful k) (offered : x.state = .offered ∨ x.state = .handover) :
    x.offerEnded.Lawful k where
  owner := by
    have notFree : x.state ≠ .free := by rcases offered with h | h <;> simp [h]
    have holder : x.holder ≠ none := fun none => notFree (law.owner.1.2 none)
    exact ⟨by simpa [Lane.offerEnded] using holder, rfl⟩
  fault := by
    obtain ⟨flagged, count⟩ := law.fault
    refine ⟨fun flag => ?_, count⟩
    obtain ⟨level, pulse, check, -⟩ := flagged flag
    exact ⟨level, pulse, check, by simp [Lane.offerEnded], by simp [Lane.offerEnded]⟩
  settings := law.settings
  pending := law.pending
  check := law.check

/-- A lane driven inactive that then asks for a check: the check is the settle in force where the lane
is watched, and none otherwise, whatever stood there. -/
theorem schedule_settleWatch (x : Lane) :
    x.schedule.settleWatch =
      { x with check := if x.watched = true then some x.settings.settle else none } := by
  unfold Lane.schedule Lane.settleWatch
  by_cases watched : x.watched = true
  · have still : ({ x with check := some x.settings.settle } : Lane).watched = true := watched
    simp [watched, still]
  · simp [watched]

theorem applySettings_of_none (noneStaged : x.pending = none) : x.applySettings = x := by
  simp [Lane.applySettings, noneStaged]

/-- The lane is watched under the settings `p`, once they are in force. -/
def watchedUnder (x : Lane) (p : Settings) : Bool := x.holder.isSome && p.readback && !x.faultFlag

/-- Applied settings, in closed form (R29). -/
theorem applySettings_of_some {p : Settings} (staged : x.pending = some p) :
    x.applySettings =
      { x with
        settings := p, pending := none, level := false, pulseEnd := none
        check := if x.watchedUnder p = true then some p.settle else none } := by
  simp only [Lane.applySettings, staged]
  rw [schedule_settleWatch, Lane.drive_eq]
  rfl

theorem Lawful.applySettings (law : x.Lawful k) (least : k ≤ 1) : x.applySettings.Lawful k := by
  cases staged : x.pending with
  | none =>
    rw [applySettings_of_none staged]
    exact law
  | some p =>
    have range := law.pending p staged
    rw [applySettings_of_some staged]
    refine ⟨law.owner, ⟨fun flag => ?_, law.fault.2⟩, range, by simp, fun n pending => ?_⟩
    · obtain ⟨-, -, -, notOffered, notFree⟩ := law.fault.1 flag
      have unwatched : x.watchedUnder p = false := by
        have flag : x.faultFlag = true := flag
        simp [Lane.watchedUnder, flag]
      exact ⟨rfl, rfl, by simp [unwatched], notOffered, notFree⟩
    · dsimp only at pending
      split at pending
      · rename_i watched
        cases pending
        obtain ⟨-, -, low, high⟩ := range
        exact ⟨by omega, high, watched⟩
      · cases pending

theorem Lawful.countOffer (law : x.Lawful k) (offered : x.state = .offered) :
    (x.countOffer l).1.Lawful k := by
  obtain ⟨o, n, offer, remaining, low, high, other⟩ := offerOk_offered law.owner offered
  obtain ⟨target, _⟩ := o
  cases remaining
  simp only [Lane.countOffer, offer]
  split
  · exact law.offerEnded (.inl offered)
  · refine ⟨⟨law.owner.1, ?_⟩, law.fault, law.settings, law.pending, law.check⟩
    have least : 1 ≤ n - 1 := by omega
    have most : n - 1 ≤ 64 := by omega
    simp [offerOk, offered, least, most, other]

/-- A completed handover, in closed form (R130). -/
theorem handOver_eq (x : Lane) (target : HostId) :
    x.handOver target =
      { x with
        state := .held, holder := some target, offer := none, pending := none, level := false
        pulseEnd := none, faultFlag := false, faultCount := 0, faultRecord := none
        check := if x.settings.readback = true then some x.settings.settle else none } := by
  unfold Lane.handOver
  dsimp only
  rw [schedule_settleWatch, Lane.drive_eq]
  simp [Lane.watched]

theorem Lawful.handOver (law : x.Lawful k) (least : k ≤ 1) (target : HostId) :
    (x.handOver target).Lawful k := by
  rw [Lane.handOver_eq]
  refine ⟨⟨by simp, rfl⟩, ⟨nofun, by simp, by simp⟩, law.settings, by simp, fun n pending => ?_⟩
  dsimp only at pending
  split at pending
  · rename_i readback
    cases pending
    obtain ⟨-, -, low, high⟩ := law.settings
    exact ⟨by omega, high, by simp [Lane.watched, readback]⟩
  · cases pending

theorem Lawful.freed (law : x.Lawful k) (retiring : x.state = .retiring) : x.freed.Lawful k where
  owner := by
    have noOffer := offer_eq_none law.owner (by simp [retiring]) (by simp [retiring])
    exact ⟨by simp [Lane.freed], by simp [Lane.freed, offerOk, noOffer]⟩
  fault := ⟨nofun, by simp [Lane.freed], by simp [Lane.freed]⟩
  settings := law.settings
  pending := by simp [Lane.freed]
  check := by simp [Lane.freed]

theorem Lawful.atBoundary (law : x.Lawful k) (least : k ≤ 1) : (Lane.atBoundary l x).1.Lawful k := by
  unfold Lane.atBoundary
  cases state : x.state with
  | free => exact law
  | held => exact law.applySettings least
  | offered => exact (law.countOffer state).applySettings least
  | handover =>
    dsimp only
    split
    · exact law.handOver least _
    · exact law
  | retiring => exact law.freed state

/-! ### Requests and resets -/

theorem Lawful.retire (law : x.Lawful k) (least : k ≤ 1) (holds : x.holder ≠ none)
    (offer : x.offer = none) : x.retire.Lawful k := by
  have given : ({ x with state := .retiring } : Lane).Lawful k := by
    refine ⟨⟨by simpa using holds, by simp [offerOk, offer]⟩, ⟨fun flag => ?_, law.fault.2⟩,
      law.settings, law.pending, law.check⟩
    obtain ⟨level, pulse, check, -⟩ := law.fault.1 flag
    exact ⟨level, pulse, check, by simp, by simp⟩
  unfold Lane.retire
  dsimp only
  split
  · exact given.drive least fun _ => ⟨rfl, rfl⟩
  · exact given

theorem Lawful.move (law : x.Lawful 1) (move : LaneMove h x y) : y.Lawful 1 := by
  cases move with
  | retire holds held =>
    exact law.retire le_rfl (by simp [holds]) (offer_eq_none law.owner (by simp [held]) (by simp [held]))
  | stage p range holds state =>
    exact ⟨law.owner, law.fault, law.settings, fun q staged => by cases staged; exact range, law.check⟩
  | offer target n range other holds held sound =>
    have target' : h ≠ target := Ne.symm other
    refine ⟨⟨by simp [holds], ?_⟩, ⟨fun flag => ?_, law.fault.2⟩, law.settings, law.pending, law.check⟩
    · simp [offerOk, holds, range.1, range.2, target']
    · exact absurd (sound.symm.trans flag) (by decide)
  | endOffer offered => exact law.offerEnded (.inl offered)
  | accept offered target =>
    obtain ⟨o, n, offer, -, -, -, other⟩ := offerOk_offered law.owner offered
    have mine : o.target = h := by simpa [offer] using target
    have holder : x.holder ≠ none := fun none => by
      have free := law.owner.1.2 none
      rw [offered] at free
      cases free
    refine ⟨⟨by simpa using holder, ?_⟩, ⟨fun flag => ?_, law.fault.2⟩, law.settings, law.pending,
      law.check⟩
    · subst mine
      simpa [offerOk] using other
    · exact absurd offered (law.fault.1 flag).2.2.2.1
  | clear holds state flag count =>
    have cleared : ({ x with faultFlag := false } : Lane).Lawful 1 := by
      obtain ⟨-, -, noCheck, -⟩ := law.fault.1 flag
      exact ⟨law.owner, ⟨nofun, by dsimp only; omega, fun three => by dsimp only at three; omega⟩,
        law.settings, law.pending, by simp [noCheck]⟩
    exact (cleared.drive le_rfl fun _ => ⟨rfl, rfl⟩).schedule le_rfl

theorem Lawful.granted (law : x.Lawful 1) (free : x.state = .free) (h : HostId) :
    (x.granted h).Lawful 1 := by
  have noHolder := law.owner.1.1 free
  have noOffer := offer_eq_none law.owner (by simp [free]) (by simp [free])
  have noCheck : x.check = none := by
    cases pending : x.check with
    | none => rfl
    | some n =>
      have watched := (law.check n pending).2.2
      exact absurd noHolder (Lawful.holder_of_watched watched)
  refine ⟨⟨by simp [Lane.granted], by simp [Lane.granted, offerOk, noOffer]⟩,
    ⟨fun flag => ?_, by simp [Lane.granted], by simp [Lane.granted]⟩, law.settings, law.pending,
    by simp [Lane.granted, noCheck]⟩
  exact absurd free (law.fault.1 flag).2.2.2.2

theorem Lawful.effect (law : x.Lawful 1) (effect : LaneEffect h x y) : y.Lawful 1 := by
  cases effect with
  | same => exact law
  | granted free => exact law.granted free h
  | move move => exact law.move move

/-- A given lane whose offer ends with it. -/
theorem Lawful.retire_offered (law : x.Lawful k) (least : k ≤ 1)
    (offered : x.state = .offered ∨ x.state = .handover) :
    ({ x.retire with offer := none } : Lane).Lawful k := by
  have notFree : x.state ≠ .free := by rcases offered with h | h <;> simp [h]
  have holds : x.holder ≠ none := fun none => notFree (law.owner.1.2 none)
  have same : ({ x.retire with offer := none } : Lane) = x.offerEnded.retire := by
    rw [Lane.retire_eq, Lane.retire_eq]
    unfold Lane.offerEnded Lane.watched
    dsimp only
    split <;> rfl
  rw [same]
  exact (law.offerEnded offered).retire least (by simpa [Lane.offerEnded] using holds) rfl

theorem Lawful.atPortReset (law : x.Lawful k) (least : k ≤ 1) (h : HostId) (giverHeld : Bool) :
    (Lane.atPortReset l h giverHeld x).1.Lawful k := by
  unfold Lane.atPortReset
  split
  · rename_i held holder
    split
    · exact law.retire least (by simp [holder]) (offer_eq_none law.owner (by simp [held]) (by simp [held]))
    · exact law
  · rename_i offered holder offer
    split
    · exact law.retire_offered least (.inl offered)
    · split
      · exact law.offerEnded (.inl offered)
      · exact law
  · rename_i handover holder offer
    split
    · dsimp only
      split
      · exact law.retire_offered least (.inr handover)
      · exact law.offerEnded (.inr handover)
    · exact law
  · exact law

end Lane

/-! ### Every event -/

theorem lanesKept_congr (lanes : t.lanes = s.lanes) (law : lanesKept s) : lanesKept t := by
  rw [lanesKept_iff] at law ⊢
  intro l
  rw [State.lane_congr lanes]
  exact law l

theorem lawful_arrive (law : ∀ l, (s.lane l).Lawful 0) (i : ArrivalIn) : lanesKept (s.arrive i) := by
  rw [lanesKept_iff]
  intro l
  have drive {x : Lane} (law : x.Lawful 1) : (s.afterDrive l x).Lawful 1 :=
    law.arrive le_rfl fun flag => State.startingOn_faulted flag
  have check {x : Lane} (law : x.Lawful 1) : (s.afterCheck i l x).Lawful 1 := by
    unfold State.afterCheck
    split
    · exact law.compare _ _ _
    · exact law
  rw [State.lane_arrive]
  split
  · exact check (drive (law l).takeDue)
  · exact drive (check (law l).takeDue)

theorem State.lane_enterFrame (s : State) (l : LaneId) :
    s.enterFrame.lane l = ((s.lane l).tick).arrive s.timebase.f [] := by
  simp only [State.enterFrame, State.frameEnd, State.lane_setTimebase, State.lane_mapLanes]
  rfl

theorem lanesKept_blockLaw : BlockLaw lanesKept where
  congr same law := lanesKept_congr same.2.1 law
  effect law effect := by
    rw [lanesKept_iff] at law ⊢
    intro l
    exact (law l).effect (effect.lane_effect l)
  arrival i law _ := by
    rw [lanesKept_iff] at law
    rw [State.plainTick_eq]
    refine lawful_arrive (fun l => ?_) i
    simp only [State.ticked, State.lane_mapLanes]
    exact (law l).tick
  boundary b law _ := by
    rw [lanesKept_iff] at law
    refine lawful_arrive (fun l => ?_) _
    refine State.lane_crossBoundary_keeps (P := Lane.Lawful 0) (fun x law => law.atBoundary (by omega))
      (fun x f bit law => law.boundaryCheck f bit) _ b ?_
    rw [State.lane_enterFrame]
    exact (law l).tick.arrive (by omega) fun _ => rfl
  completion law _ := lanesKept_congr (by simp [State.completeJob]; rfl) law
  sessionReset h first law := by
    rw [lanesKept_iff] at law ⊢
    intro l
    rw [State.lane_resetBlocks]
    exact (law l).atPortReset le_rfl h _
  powerOn := lanesKept_reset

/-- Settles O57: lane by lane, with a pending check of 0 allowed between the tick and the arrival that
takes it. -/
theorem stepKeepsLanes : Obligations.StepKeepsLanes :=
  fun _ _ law run => lanesKept_blockLaw.step law run

end Sys2Proof.Machine
end

section
/-!
PROOFS. Host records at a boundary: what the load unit, run control and the agreement unit make of one
host's record (R71, R100, R103, R107, R108, R154, R155).
-/

namespace Sys2Proof.Machine

open Sys2Proof.Safety

/-! ### The reactions as functions of one host record -/

/-- A book of the record moved to another state (R98). -/
def HostRecord.move (r : HostRecord) (b : BookId) (st : BookState) : HostRecord :=
  r.setBook b ((r.book b).inState st)

/-- The record after the load unit's reaction to a boundary (R71). -/
def HostRecord.loadBoundary (r : HostRecord) : HostRecord :=
  match r.load with
  | none => r
  | some ld =>
    if ld.idle + 1 < idleLimit then r.setLoad (some { ld with idle := ld.idle + 1 }) else r.rollBack ld

/-- The record with its active book, if any, moved from ACTIVE to READY (R98). -/
def HostRecord.leave (r : HostRecord) : HostRecord :=
  match r.run.active with
  | some a => r.move a .ready
  | none => r

/-- The record after a pending SWAP to `b` (R100). -/
def HostRecord.carrySwap (r : HostRecord) (b : BookId) : HostRecord :=
  (r.leave.move b .active).setRun { r.run with active := some b, action := .none }

/-- The record after a pending HALT of `a` (R103). -/
def HostRecord.carryHalt (r : HostRecord) (a : BookId) : HostRecord :=
  (r.move a .ready).setRun { r.run with active := none, action := .none }

/-- The record after a turn from `a`, taken or skipped (R107, R108). -/
def HostRecord.takeTurn (r : HostRecord) (a : BookId) : HostRecord :=
  if (r.book a.other).state = .ready then
    ((r.move a .ready).move a.other .active).setRun
      { r.run with active := some a.other, turn := r.run.runOf a.other }
  else r.setRun { r.run with turn := r.run.runOf a }

/-- The record after run control's reaction to a boundary (R100, R103, R107, R108). -/
def HostRecord.runBoundary (r : HostRecord) : HostRecord :=
  match r.run.mode, r.run.action, r.run.active with
  | .single, .swapTo b, _ => r.carrySwap b
  | .single, .halt, some a => r.carryHalt a
  | .alternate, _, some a =>
    if r.run.turn ≤ 1 then r.takeTurn a else r.setRun { r.run with turn := r.run.turn - 1 }
  | _, _, _ => r

/-- The book that run control's reaction takes out of ACTIVE (R98, R155). -/
def HostRecord.leaver (r : HostRecord) : Option BookId :=
  match r.run.active with
  | some a => if r.runBoundary.run.active = some a then none else some a
  | none => none

/-- The record with book `b` demoted (R104, R154). -/
def HostRecord.demote (r : HostRecord) (b : BookId) : HostRecord :=
  (r.setBook b (r.book b).demoted).setRun
    (if (r.book b).state = .pending then { r.run with action := .none } else r.run)

/-! ### They are what the model does -/

variable {s : State} {h g : HostId}

theorem State.host_loadBoundary (s : State) (h g : HostId) :
    (s.loadBoundary h).host g = if g = h then (s.host h).loadBoundary else s.host g := by
  unfold State.loadBoundary HostRecord.loadBoundary
  cases load : (s.host h).load with
  | none =>
    dsimp only
    split
    · rename_i same
      rw [same]
    · rfl
  | some ld =>
    dsimp only
    split
    · exact State.host_setHost _ _ _ _
    · rw [State.host_post, State.host_setHost]

theorem State.host_moveBook (s : State) (h g : HostId) (b : BookId) (st : BookState) :
    (s.moveBook h b st).host g = if g = h then (s.host h).move b st else s.host g := by
  simp [State.moveBook, State.setBook, State.host_setHost, HostRecord.move, State.book]

theorem State.host_setRun (s : State) (h g : HostId) (x : RunRecord) :
    (s.setRun h x).host g = if g = h then (s.host h).setRun x else s.host g := by
  simp [State.setRun, State.host_setHost]

theorem State.host_carrySwap (s : State) (h g : HostId) (b : BookId) :
    (s.carrySwap h b).host g = if g = h then (s.host h).carrySwap b else s.host g := by
  unfold State.carrySwap HostRecord.carrySwap HostRecord.leave State.run
  dsimp only
  rw [State.host_post, State.host_setRun, State.host_moveBook, State.host_moveBook]
  cases (s.host h).run.active with
  | none => by_cases same : g = h <;> simp [same]
  | some a => by_cases same : g = h <;> simp [same, State.host_moveBook]

theorem State.host_carryHalt (s : State) (h g : HostId) (a : BookId) :
    (s.carryHalt h a).host g = if g = h then (s.host h).carryHalt a else s.host g := by
  unfold State.carryHalt HostRecord.carryHalt State.run
  rw [State.host_post, State.host_setRun, State.host_moveBook, State.host_moveBook]
  by_cases same : g = h <;> simp [same]

theorem State.host_takeTurn (s : State) (h g : HostId) (a : BookId) :
    (s.takeTurn h a).host g = if g = h then (s.host h).takeTurn a else s.host g := by
  unfold State.takeTurn HostRecord.takeTurn State.run State.book
  dsimp only
  split
  · rw [State.host_post, State.host_setRun, State.host_moveBook, State.host_moveBook,
      State.host_moveBook, State.host_moveBook]
    by_cases same : g = h <;> simp [same, State.host_moveBook]
  · rw [State.host_post, State.host_setRun]

theorem State.host_runBoundary (s : State) (h g : HostId) :
    (s.runBoundary h).host g = if g = h then (s.host h).runBoundary else s.host g := by
  have kept : s.host g = if g = h then s.host h else s.host g := by
    split
    · rename_i same
      rw [same]
    · rfl
  simp only [State.runBoundary, HostRecord.runBoundary, State.run]
  cases mode : (s.host h).run.mode with
  | single =>
    cases action : (s.host h).run.action with
    | none => simpa only using kept
    | swapTo b => simpa only using s.host_carrySwap h g b
    | halt =>
      cases active : (s.host h).run.active with
      | none => simpa only using kept
      | some a => simpa only using s.host_carryHalt h g a
  | alternate =>
    cases active : (s.host h).run.active with
    | none => simpa only using kept
    | some a =>
      by_cases turn : (s.host h).run.turn ≤ 1
      · simpa only [turn, if_true] using s.host_takeTurn h g a
      · simpa only [turn, if_false, active, mode] using
          s.host_setRun h g { (s.host h).run with turn := (s.host h).run.turn - 1 }

theorem State.leavesActive_eq (s : State) (h : HostId) : s.leavesActive h = (s.host h).leaver := by
  cases active : (s.host h).run.active <;>
    simp [State.leavesActive, HostRecord.leaver, State.run, State.host_runBoundary, active]

theorem State.host_demote_eq (s : State) (h g : HostId) (b : BookId) :
    (s.demote h b).host g = if g = h then (s.host h).demote b else s.host g :=
  s.host_demote h g b

/-! ### What each of them can do to a record -/

/-- What a reaction to a boundary can make of one host record. -/
inductive BoundaryMove (r : HostRecord) : HostRecord → Prop where
  | load : BoundaryMove r r.loadBoundary
  | run : BoundaryMove r r.runBoundary
  | demote (b : BookId) (idle : (r.book b).state = .ready ∨ (r.book b).state = .pending) :
      BoundaryMove r (r.demote b)

theorem Book.idle_of_idleMisfit {b : Book} {f : Nat} (misfit : b.idleMisfit f = true) :
    b.state = .ready ∨ b.state = .pending := by
  simp only [Book.idleMisfit, Bool.and_eq_true, Bool.or_eq_true, beq_iff_eq] at misfit
  exact misfit.1

theorem State.ready_of_leaverMisfit {b : Book} (misfit : s.leaverMisfit b = true) :
    b.state = .ready := by
  simp only [State.leaverMisfit, Bool.and_eq_true, beq_iff_eq] at misfit
  exact misfit.1

/-- What one move keeps of each record, the demotions of a test keep, where it singles out READY and
PENDING books alone. -/
theorem State.host_demoteWhere_keeps {P : HostId → HostRecord → Prop}
    (moves : ∀ h r r', BoundaryMove r r' → P h r → P h r') {p : HostId → BookId → Book → Bool}
    (idle : ∀ h b bk, p h b bk = true → bk.state = .ready ∨ bk.state = .pending) (s : State)
    (start : ∀ g, P g (s.host g)) : ∀ g, P g ((s.demoteWhere p).host g) := by
  refine foldl_keeps _ (fun t : State => ∀ g, P g (t.host g)) (fun t x law g => ?_) _ s start
  split
  · rename_i chosen
    rw [State.host_demote_eq]
    split
    · rename_i same
      subst same
      exact moves _ _ _ (.demote _ (idle _ _ _ chosen)) (law _)
    · exact law g
  · exact law g

@[simp] theorem State.clearProposal_hosts (s : State) : s.clearProposal.hosts = s.hosts := by
  unfold State.clearProposal
  split
  · dsimp only
    split <;> rfl
  · rfl

@[simp] theorem State.endProposal_hosts (s : State) (p : Proposal) (o : ProposalOutcome) :
    (s.endProposal p o).hosts = s.hosts := by simp [State.endProposal]

@[simp] theorem State.proposalBoundary_hosts (s : State) : s.proposalBoundary.1.hosts = s.hosts := by
  unfold State.proposalBoundary
  split
  · rfl
  · split
    · simp
    · dsimp only
      split
      · rfl
      · split <;> simp

/-- The test of the agreement unit's demotions at a boundary singles out READY and PENDING books. -/
theorem State.agreementBoundary_idle (s : State) (left : List (HostId × BookId)) (h : HostId)
    (b : BookId) (bk : Book)
    (chosen : ((match s.proposalBoundary.2 with
      | some f => bk.idleMisfit f
      | none => false) || (left.contains (h, b) && s.proposalBoundary.1.leaverMisfit bk)) = true) :
    bk.state = .ready ∨ bk.state = .pending := by
  rcases Bool.or_eq_true_iff.1 chosen with misfit | leaver
  · split at misfit
    · exact Book.idle_of_idleMisfit misfit
    · cases misfit
  · exact .inl (State.ready_of_leaverMisfit (Bool.and_eq_true_iff.1 leaver).2)

/-- What the moves of a record keep, a boundary keeps of every host record. -/
theorem State.host_crossBoundary_keeps {P : HostId → HostRecord → Prop}
    (moves : ∀ h r r', BoundaryMove r r' → P h r → P h r') (s : State) (b : BoundaryIn)
    (start : ∀ g, P g (s.host g)) : ∀ g, P g ((s.crossBoundary b).host g) := by
  obtain ⟨c, law, result⟩ := s.crossBoundary_keeps b (fun c => ∀ g, P g (c.state.host g))
    (fun c r law => by
      cases r with
      | lane l =>
        intro g
        rw [Crossing.react, State.host_congr (State.reactLane_hosts _ _ _)]
        exact law g
      | check l =>
        intro g
        rw [Crossing.react, State.host_congr (State.boundaryCheck_hosts _ _)]
        exact law g
      | load h =>
        intro g
        rw [Crossing.react, State.host_loadBoundary]
        split
        · rename_i same
          subst same
          exact moves _ _ _ .load (law _)
        · exact law g
      | run h =>
        have ran : ∀ g, P g ((c.state.runBoundary h).host g) := by
          intro g
          rw [State.host_runBoundary]
          split
          · rename_i same
            subst same
            exact moves _ _ _ .run (law _)
          · exact law g
        simp only [Crossing.react, Crossing.run]
        split
        · exact ran
        · split
          · dsimp only
            split
            · rename_i misfit
              intro g
              rw [State.host_demote_eq]
              split
              · rename_i same
                subst same
                exact moves _ _ _ (.demote _ (.inl (State.ready_of_leaverMisfit misfit))) (ran _)
              · exact ran g
            · exact ran
          · exact ran
      | agreement =>
        refine State.host_demoteWhere_keeps moves (State.agreementBoundary_idle c.state c.left) _
          fun g => ?_
        rw [State.host_congr (State.proposalBoundary_hosts _)]
        exact law g) start
  rwa [result]

/-! ### The cues of a book at a boundary -/

theorem HostRecord.move_cues (r : HostRecord) (b c : BookId) (st : BookState) :
    ((r.move b st).book c).cues = (r.book c).cues := by
  by_cases same : c = b
  · subst same
    simp [HostRecord.move, Book.inState]
  · simp [HostRecord.move, same]

theorem HostRecord.leave_cues (r : HostRecord) (c : BookId) : (r.leave.book c).cues = (r.book c).cues := by
  unfold HostRecord.leave
  split
  · exact r.move_cues _ _ _
  · rfl

theorem HostRecord.runBoundary_cues (r : HostRecord) (c : BookId) :
    (r.runBoundary.book c).cues = (r.book c).cues := by
  unfold HostRecord.runBoundary
  split
  · simp [HostRecord.carrySwap, HostRecord.move_cues, HostRecord.leave_cues]
  · simp [HostRecord.carryHalt, HostRecord.move_cues]
  · split
    · unfold HostRecord.takeTurn
      split
      · simp [HostRecord.move_cues]
      · simp
    · simp
  · rfl

theorem HostRecord.demote_cues (r : HostRecord) (b c : BookId) :
    ((r.demote b).book c).cues = (r.book c).cues := by
  by_cases same : c = b
  · subst same
    simp [HostRecord.demote, Book.demoted]
  · simp [HostRecord.demote, same]

/-- A boundary takes cues away from a book, and gives none. -/
theorem BoundaryMove.cues {r r' : HostRecord} (move : BoundaryMove r r') (b : BookId) :
    (r'.book b).cues ⊆ (r.book b).cues := by
  cases move with
  | load =>
    unfold HostRecord.loadBoundary
    split
    · exact List.Subset.refl _
    · rename_i ld load
      split
      · simp
      · by_cases same : b = ld.book
        · subst same
          simpa [HostRecord.rollBack] using List.take_subset _ _
        · simp [HostRecord.rollBack, same]
  | run => simp [HostRecord.runBoundary_cues]
  | demote => simp [HostRecord.demote_cues]

theorem State.cues_crossBoundary (s : State) (b : BoundaryIn) (h : HostId) (x : BookId) :
    ((s.crossBoundary b).book h x).cues ⊆ (s.book h x).cues :=
  State.host_crossBoundary_keeps
    (P := fun g r => ∀ x, (r.book x).cues ⊆ (s.book g x).cues)
    (fun _ _ _ move law x => List.Subset.trans (move.cues x) (law x)) s b
    (fun _ _ => List.Subset.refl _) h x

end Sys2Proof.Machine
end

section
/-!
PROOFS. Levels, pulse ends and cue fields: every event of the part keeps their laws (R13, R17, R18, R25,
R37).
-/

namespace Sys2Proof.Machine

open Sys2Proof.Safety

variable {s t : State} {h : HostId} {l : LaneId} {x y : Lane} {ok : Nat → Prop}

/-! ### The cues of the books -/

theorem cuesKept_iff : cuesKept s ↔ ∀ h b, ∀ c ∈ (s.book h b).cues, cueOk c = true := by
  refine ⟨fun law h b => ?_, fun law h => ⟨List.all_eq_true.2 (law h .A), List.all_eq_true.2 (law h .B)⟩⟩
  cases b
  · exact List.all_eq_true.1 (law h).1
  · exact List.all_eq_true.1 (law h).2

theorem cuesKept_of_subset (law : cuesKept s) (sub : ∀ h b, (t.book h b).cues ⊆ (s.book h b).cues) :
    cuesKept t := by
  rw [cuesKept_iff] at law ⊢
  exact fun h b c mem => law h b c (sub h b mem)

/-- A due cue is at the position of its book (R112). -/
theorem State.of_mem_dueCues {c : Cue} (due : c ∈ s.dueCues h) :
    c.offset = s.timebase.position ∧ ∃ b, (s.run h).active = some b ∧ c ∈ (s.book h b).cues := by
  unfold State.dueCues at due
  split at due
  · rename_i b active
    obtain ⟨mem, now⟩ := List.mem_filter.1 due
    obtain ⟨i, -, found⟩ := List.mem_filterMap.1 mem
    simp only [Cue.dueAt, Bool.and_eq_true, beq_iff_eq] at now
    exact ⟨now.1, b, active, List.mem_of_getElem? found⟩
  · cases due

theorem HostMove.cues_ok {r : HostRecord} (move : HostMove s h r)
    (law : ∀ b, ∀ c ∈ (s.book h b).cues, cueOk c = true) (b : BookId) :
    ∀ c ∈ (r.book b).cues, cueOk c = true := by
  have kept {x : BookId} {bk : Book} (same : ∀ c ∈ bk.cues, cueOk c = true) :
      ∀ c ∈ (((s.host h).setBook x bk).book b).cues, cueOk c = true := by
    by_cases here : b = x
    · subst here
      simpa using same
    · rw [HostRecord.book_setBook_ne _ _ here]
      exact law b
  cases move with
  | edit x cues gate fields =>
    refine kept (x := x) fun c mem => ?_
    rcases fields c mem with ok | ⟨a, old⟩
    · exact ok
    · exact law a c old
  | openLoad x => exact kept (x := x) (law x)
  | feed ld cues load fields =>
    refine kept (x := ld.book) fun c mem => ?_
    rcases List.mem_append.1 mem with old | new
    · exact law ld.book c old
    · exact fields c new
  | complete ld cues load fields =>
    refine kept (x := ld.book) fun c mem => ?_
    rcases List.mem_append.1 mem with old | new
    · exact law ld.book c old
    · exact fields c new
  | rollBack ld => exact kept (x := ld.book) fun c mem => law ld.book c (List.mem_of_mem_take mem)
  | swap x => exact kept (x := x) (law x)
  | cancelSwap x => exact kept (x := x) (law x)
  | halt => exact law b
  | setSingle => exact law b
  | setAlternate => exact law b

theorem State.book_agree_cues (s : State) (p : Proposal) (h : HostId) (b : BookId) :
    ((s.agree p).book h b).cues = (s.book h b).cues := by
  have host : (s.agree p).host h = demotedBy p.newF (s.host h) := by
    rw [State.agree_eq, State.host_postAll]
    simp [afterAgreement, State.host]
  rw [State.book, host, State.book]
  cases b
  · simp only [demotedBy, HostRecord.book]
    split <;> rfl
  · simp only [demotedBy, HostRecord.book]
    split <;> rfl

theorem cuesKept_congr (hosts : t.hosts = s.hosts) (law : cuesKept s) : cuesKept t :=
  cuesKept_of_subset law fun h b => by
    rw [State.book_congr hosts]
    exact List.Subset.refl _

theorem State.book_setBook (s : State) (h g : HostId) (b c : BookId) (x : Book) :
    (s.setBook h b x).book g c = if g = h ∧ c = b then x else s.book g c := by
  simp only [State.book, State.setBook, State.host_setHost]
  by_cases host : g = h
  · subst host
    by_cases book : c = b
    · subst book
      simp
    · simp [book]
  · simp [host]

/-- A write of one book whose cues were there before keeps the law. -/
theorem cuesKept_setBook (law : cuesKept s) {b : BookId} {bk : Book}
    (sub : bk.cues ⊆ (s.book h b).cues) : cuesKept (s.setBook h b bk) := by
  refine cuesKept_of_subset law fun g c => ?_
  rw [State.book_setBook]
  split
  · rename_i here
    obtain ⟨rfl, rfl⟩ := here
    exact sub
  · exact List.Subset.refl _

theorem cuesKept_ownerEffect (law : cuesKept s) (effect : OwnerEffect h s t) : cuesKept t := by
  cases effect with
  | unchanged => exact law
  | granted => exact cuesKept_congr (by simp [State.grant_eq]) law
  | lane => exact cuesKept_congr (by simp) law
  | host r move =>
    rw [cuesKept_iff] at law ⊢
    intro g b
    rw [State.book, State.host_setHost]
    split
    · exact move.cues_ok (law h) b
    · exact law g b
  | compile b => exact cuesKept_congr rfl (cuesKept_setBook law (List.Subset.refl _))
  | abort j => exact cuesKept_congr rfl (cuesKept_setBook law (List.Subset.refl _))
  | propose => exact cuesKept_congr (by simp) law
  | proposeAgreed =>
    exact cuesKept_of_subset law fun g b => by
      rw [State.book_agree_cues]
      exact List.Subset.refl _
  | vote => exact cuesKept_congr rfl law
  | voteAgreed =>
    exact cuesKept_of_subset law fun g b => by
      rw [State.book_agree_cues]
      exact List.Subset.refl _
  | ended => exact cuesKept_congr (by simp) law

theorem State.lanesReset_hosts (s : State) (h : HostId) : (s.lanesReset h).hosts = s.hosts :=
  State.lanesReset_keeps (P := fun t => t.hosts = s.hosts) (fun _ _ _ same => by simp [same]) s h rfl

theorem cuesKept_agreementReset (law : cuesKept s) (h : HostId) : cuesKept (s.agreementReset h) := by
  unfold State.agreementReset
  split
  · exact law
  · split
    · exact cuesKept_congr (by simp) law
    · split
      · dsimp only
        split
        · exact cuesKept_of_subset law fun g b => by
            rw [State.book_agree_cues]
            exact List.Subset.refl _
        · exact cuesKept_congr rfl law
      · exact law

theorem cuesKept_resetBlocks (law : cuesKept s) (h : HostId) (first : Bool) :
    cuesKept (s.resetBlocks h first) := by
  have plain : cuesKept ((s.setHost h .initial).dropJob h) := by
    refine cuesKept_of_subset law fun g b => ?_
    change ((s.setHost h .initial).book g b).cues ⊆ _
    rw [State.book, State.host_setHost]
    split
    · cases b <;> exact List.nil_subset _
    · exact List.Subset.refl _
  unfold State.resetBlocks
  dsimp only
  split
  · exact cuesKept_congr (State.lanesReset_hosts _ h) (cuesKept_agreementReset plain h)
  · exact cuesKept_agreementReset (cuesKept_congr (State.lanesReset_hosts _ h) plain) h

theorem State.enterFrame_hosts (s : State) : s.enterFrame.hosts = s.hosts := by
  simp [State.enterFrame, State.frameEnd, State.mapLanes]

theorem cuesKept_crossBoundary (law : cuesKept s) (b : BoundaryIn) : cuesKept (s.crossBoundary b) :=
  cuesKept_of_subset law (s.cues_crossBoundary b)

theorem cuesKept_completeJob (law : cuesKept s) (j : Job) : cuesKept (s.completeJob j) := by
  have book := cuesKept_setBook (h := j.host) (b := j.book) law
    (bk := (s.book j.host j.book).completed (s.compileReport j.host (s.book j.host j.book).cues))
    (by rw [Book.completed_eq]; exact List.Subset.refl _)
  refine cuesKept_congr ?_ book
  simp [State.completeJob]

/-! ### Levels of one lane -/

/-- What is kept of the level of one lane, `ok` saying where a pulse may end. -/
structure Lane.Levelled (ok : Nat → Prop) (x : Lane) : Prop where
  pulse : ∀ e ∈ x.pulseEnd, ok e
  inactive : x.state = .free ∨ x.state = .retiring → x.pulseEnd = none → x.level = false
  free : x.state = .free → x.pulseEnd = none

theorem levelsKept_iff :
    levelsKept s ↔
      ∀ l, (s.lane l).Levelled fun e => s.timebase.position < e ∧ e ≤ s.timebase.f :=
  ⟨fun law l => ⟨(law l).1, (law l).2.1, (law l).2.2⟩,
    fun law l => ⟨(law l).pulse, (law l).inactive, (law l).free⟩⟩

namespace Lane

/-- An inactive lane with no pulse end keeps the law in every state. -/
theorem Levelled.of_inactive (level : x.level = false) (noPulse : x.pulseEnd = none) : x.Levelled ok :=
  ⟨by simp [noPulse], fun _ _ => level, fun _ => noPulse⟩

theorem Levelled.drive_off (x : Lane) : (x.drive false none).Levelled ok := by
  rw [Lane.drive_eq]
  exact .of_inactive rfl rfl

/-- A lane with the same level and pulse end, in a state that does not give it up. -/
theorem Levelled.of_same (law : x.Levelled ok) (level : y.level = x.level)
    (pulse : y.pulseEnd = x.pulseEnd) (state : y.state = x.state ∨ y.state ≠ .free ∧ y.state ≠ .retiring) :
    y.Levelled ok := by
  refine ⟨by rw [pulse]; exact law.pulse, fun idle noPulse => ?_, fun free => ?_⟩
  · rcases state with same | ⟨notFree, notRetiring⟩
    · rw [level]
      exact law.inactive (same ▸ idle) (pulse ▸ noPulse)
    · exact absurd idle (by simp [notFree, notRetiring])
  · rcases state with same | ⟨notFree, -⟩
    · rw [pulse]
      exact law.free (same ▸ free)
    · exact absurd free notFree

theorem Levelled.retire (law : x.Levelled ok) : x.retire.Levelled ok := by
  rw [Lane.retire_eq]
  split
  · exact .of_inactive rfl rfl
  · rename_i pulse
    exact ⟨law.pulse, fun _ noPulse => absurd (Option.isNone_iff_eq_none.2 noPulse) pulse, nofun⟩

theorem Levelled.retire_withdrawn (law : x.Levelled ok) :
    ({ x.retire with offer := none } : Lane).Levelled ok :=
  law.retire.of_same rfl rfl (.inl rfl)

theorem Levelled.offerEnded (law : x.Levelled ok) : x.offerEnded.Levelled ok :=
  law.of_same rfl rfl (.inr ⟨nofun, nofun⟩)

theorem Levelled.effect (law : x.Levelled ok) (effect : LaneEffect h x y) : y.Levelled ok := by
  cases effect with
  | same => exact law
  | granted free => exact law.of_same rfl rfl (.inr ⟨nofun, nofun⟩)
  | move move =>
    cases move with
    | retire => exact law.retire
    | stage => exact law.of_same rfl rfl (.inl rfl)
    | offer => exact law.of_same rfl rfl (.inr ⟨nofun, nofun⟩)
    | endOffer => exact law.offerEnded
    | accept => exact law.of_same rfl rfl (.inr ⟨nofun, nofun⟩)
    | clear =>
      rw [Lane.schedule_eq]
      exact (Levelled.drive_off _).of_same rfl rfl (.inl rfl)

theorem Levelled.atPortReset (law : x.Levelled ok) (h : HostId) (giverHeld : Bool) :
    (Lane.atPortReset l h giverHeld x).1.Levelled ok := by
  unfold Lane.atPortReset
  split
  · split
    · exact law.retire
    · exact law
  · split
    · exact law.retire_withdrawn
    · split
      · exact law.offerEnded
      · exact law
  · split
    · dsimp only
      split
      · exact law.retire_withdrawn
      · exact law.offerEnded
    · exact law
  · exact law

theorem Levelled.compare (law : x.Levelled ok) (f : Word32) (p : Nat) (bit : Bool) :
    (Lane.compare l f p bit x).1.Levelled ok := by
  unfold Lane.compare
  split
  · obtain ⟨level, pulse, -⟩ := Lane.fault_level (l := l) x f p bit
    exact .of_inactive level pulse
  · exact law

theorem Levelled.boundaryCheck (law : x.Levelled ok) (f : Word32) (bit : Bool) :
    (Lane.boundaryCheck l f bit x).1.Levelled ok := by
  unfold Lane.boundaryCheck
  split
  · exact law.compare f 0 bit
  · exact law

theorem Levelled.applySettings (law : x.Levelled ok) : x.applySettings.Levelled ok := by
  cases staged : x.pending with
  | none =>
    rw [applySettings_of_none staged]
    exact law
  | some p =>
    rw [applySettings_of_some staged]
    exact .of_inactive rfl rfl

theorem Levelled.countOffer (law : x.Levelled ok) : (x.countOffer l).1.Levelled ok := by
  unfold Lane.countOffer
  split
  · split
    · exact law.of_same rfl rfl (.inr ⟨nofun, nofun⟩)
    · exact law.of_same rfl rfl (.inl rfl)
  · exact law

/-- The lane table's reaction to a boundary, at which no pulse is running any more. -/
theorem Levelled.atBoundary (law : x.Levelled fun _ => False) :
    (Lane.atBoundary l x).1.Levelled fun _ => False := by
  have noPulse : x.pulseEnd = none := by
    cases pulse : x.pulseEnd with
    | none => rfl
    | some e => exact (law.pulse e pulse).elim
  unfold Lane.atBoundary
  cases state : x.state with
  | free => exact law
  | held => exact law.applySettings
  | offered => exact law.countOffer.applySettings
  | handover =>
    dsimp only
    split
    · rw [Lane.handOver_eq]
      exact .of_inactive rfl rfl
    · exact law
  | retiring => exact .of_inactive (law.inactive (.inr state) noPulse) noPulse

theorem Levelled.takeDue (law : x.Levelled ok) : x.takeDue.Levelled ok := by
  unfold Lane.takeDue
  split
  · exact law.of_same rfl rfl (.inl rfl)
  · exact law

/-- A pulse end that is acted on at `p` leaves pulse ends beyond `p`. -/
theorem Levelled.arrive_none {p f : Nat} (law : x.Levelled fun e => p ≤ e ∧ e ≤ f) :
    (x.arrive p []).Levelled fun e => p < e ∧ e ≤ f := by
  rw [Lane.arrive_eq, List.foldl_nil, LaneRecord.afterPulseEnd]
  split
  · exact .of_inactive rfl rfl
  · rename_i runs
    refine ⟨fun e pulse => ?_, law.inactive, law.free⟩
    have pulse : x.pulseEnd = some e := pulse
    obtain ⟨from', most⟩ := law.pulse e pulse
    have other : e ≠ p := fun same => runs (same ▸ pulse)
    exact ⟨by omega, most⟩

end Lane

/-! ### Levels at an arrival -/

/-- The drivers' work on a lane: a cue that starts is due at this position and fits F (R17, R112,
R113). -/
theorem State.afterDrive_levelled (cues : cuesKept s)
    (law : x.Levelled fun e => s.timebase.position ≤ e ∧ e ≤ s.timebase.f) :
    (s.afterDrive l x).Levelled fun e => s.timebase.position < e ∧ e ≤ s.timebase.f := by
  unfold State.afterDrive
  cases last : (s.startingOn l x).getLast? with
  | none =>
    rw [List.getLast?_eq_none_iff.1 last]
    exact law.arrive_none
  | some c =>
    obtain ⟨works, -, lane, fits, g, -, due⟩ :=
      (s.mem_startingOn l x c).1 (List.mem_of_getLast? last)
    obtain ⟨offset, b, -, mem⟩ := State.of_mem_dueCues due
    have width := cuesKept_iff.1 cues g b c mem
    have notGiven : x.state ≠ .free ∧ x.state ≠ .retiring := by
      constructor <;> intro state <;> rw [state] at works <;> cases works
    rw [Lane.arrive_eq, foldl_driven_getLast last (by simp [lane])]
    refine ⟨fun e pulse => ?_, fun idle => absurd idle (by simp [notGiven]),
      fun free => absurd free notGiven.1⟩
    cases action : c.action with
    | rise k => simp [action, Action.driven] at pulse
    | fall k => simp [action, Action.driven] at pulse
    | note => simp [action, Action.driven] at pulse
    | pulse k w =>
      have ends : s.timebase.position + w = e := by simpa [action, Action.driven] using pulse
      have positive : 1 ≤ w := by
        simp only [cueOk, action, Bool.and_eq_true, decide_eq_true_eq] at width
        exact width.2.1
      have inside := ((Cue.fits_iff c _ (by simp [lane])).1 fits).2 w (by simp [pulseWidth, action])
      omega

theorem levelsKept_arrive (cues : cuesKept s) (i : ArrivalIn)
    (law : ∀ l, (s.lane l).Levelled fun e => s.timebase.position ≤ e ∧ e ≤ s.timebase.f) :
    levelsKept (s.arrive i) := by
  rw [levelsKept_iff]
  intro l
  have check {ok : Nat → Prop} {x : Lane} (law : x.Levelled ok) :
      (s.afterCheck i l x).Levelled ok := by
    unfold State.afterCheck
    split
    · exact law.compare _ _ _
    · exact law
  rw [State.lane_arrive, State.arrive_timebase]
  split
  · exact check (State.afterDrive_levelled cues (law l).takeDue)
  · exact State.afterDrive_levelled cues (check (law l).takeDue)

theorem Lane.Levelled.weaken {ok ok' : Nat → Prop} (law : x.Levelled ok) (imp : ∀ e, ok e → ok' e) :
    x.Levelled ok' := ⟨fun e pulse => imp e (law.pulse e pulse), law.inactive, law.free⟩

theorem Lane.Levelled.tick (law : x.Levelled ok) : x.tick.Levelled ok :=
  law.of_same rfl rfl (.inl rfl)

theorem levelsKept_plainTick (levels : levelsKept s) (cues : cuesKept s) (i : ArrivalIn) :
    levelsKept (s.plainTick i) := by
  rw [levelsKept_iff] at levels
  rw [State.plainTick_eq]
  refine levelsKept_arrive (cuesKept_congr s.ticked_hosts cues) i fun l => ?_
  simp only [State.ticked, State.lane_mapLanes]
  exact (levels l).tick.weaken fun e later => ⟨later.1, later.2⟩

theorem levelsKept_boundaryTick (levels : levelsKept s) (cues : cuesKept s) (next : s.atBoundary = true)
    (b : BoundaryIn) : levelsKept (s.boundaryTick b) := by
  rw [levelsKept_iff] at levels
  have last := (s.atBoundary_iff.1 next).2
  have entered := cuesKept_congr s.enterFrame_hosts cues
  refine levelsKept_arrive (cuesKept_crossBoundary entered b) _ fun l => ?_
  refine Lane.Levelled.weaken (ok := fun _ => False) ?_ fun e => False.elim
  refine State.lane_crossBoundary_keeps (P := Lane.Levelled fun _ => False)
    (fun x law => law.atBoundary) (fun x f bit law => law.boundaryCheck f bit) _ b ?_
  rw [State.lane_enterFrame]
  have ended := ((levels l).tick.weaken
    (ok' := fun e => s.timebase.f ≤ e ∧ e ≤ s.timebase.f) fun e later => by omega).arrive_none
  exact ended.weaken fun e beyond => by omega

/-! ### Every event -/

theorem State.clearProposal_position (s : State) :
    s.clearProposal.timebase.position = s.timebase.position ∧
      s.clearProposal.timebase.f = s.timebase.f ∧
        s.clearProposal.timebase.frame = s.timebase.frame := by
  unfold State.clearProposal
  split
  · dsimp only
    split <;> exact ⟨rfl, rfl, rfl⟩
  · exact ⟨rfl, rfl, rfl⟩

/-- An answered request leaves the position and the F in force. -/
theorem OwnerEffect.timebase (effect : OwnerEffect h s t) :
    t.timebase.position = s.timebase.position ∧ t.timebase.f = s.timebase.f ∧
      t.timebase.frame = s.timebase.frame := by
  have same (timebase : t.timebase = s.timebase) :
      t.timebase.position = s.timebase.position ∧ t.timebase.f = s.timebase.f ∧
        t.timebase.frame = s.timebase.frame := by
    rw [timebase]
    exact ⟨rfl, rfl, rfl⟩
  cases effect with
  | unchanged => exact ⟨rfl, rfl, rfl⟩
  | granted => exact same (by simp [State.grant_eq])
  | lane => exact same (by simp)
  | host => exact ⟨rfl, rfl, rfl⟩
  | compile => exact ⟨rfl, rfl, rfl⟩
  | abort => exact ⟨rfl, rfl, rfl⟩
  | propose => exact same (by simp)
  | proposeAgreed => simp [State.agree, State.recordAgreed]
  | vote => exact ⟨rfl, rfl, rfl⟩
  | voteAgreed => simp [State.agree, State.recordAgreed]
  | ended p o record => simpa [State.endProposal] using s.clearProposal_position

theorem State.agreementReset_position (s : State) (h : HostId) :
    (s.agreementReset h).timebase.position = s.timebase.position ∧
      (s.agreementReset h).timebase.f = s.timebase.f ∧
        (s.agreementReset h).timebase.frame = s.timebase.frame := by
  unfold State.agreementReset
  split
  · exact ⟨rfl, rfl, rfl⟩
  · split
    · simpa using s.clearProposal_position
    · split
      · dsimp only
        split
        · simp [State.agree, State.recordAgreed]
        · exact ⟨rfl, rfl, rfl⟩
      · exact ⟨rfl, rfl, rfl⟩

theorem State.lanesReset_timebase (s : State) (h : HostId) : (s.lanesReset h).timebase = s.timebase :=
  State.lanesReset_keeps (P := fun t => t.timebase = s.timebase) (fun _ _ _ same => by simp [same]) s h
    rfl

theorem State.resetBlocks_position (s : State) (h : HostId) (first : Bool) :
    (s.resetBlocks h first).timebase.position = s.timebase.position ∧
      (s.resetBlocks h first).timebase.f = s.timebase.f ∧
        (s.resetBlocks h first).timebase.frame = s.timebase.frame := by
  unfold State.resetBlocks
  dsimp only
  split
  · rw [State.lanesReset_timebase]
    exact State.agreementReset_position ((s.setHost h .initial).dropJob h) h
  · have reset := State.agreementReset_position (((s.setHost h .initial).dropJob h).lanesReset h) h
    rwa [State.lanesReset_timebase] at reset

theorem levelsKept_of_lanes (position : t.timebase.position = s.timebase.position)
    (length : t.timebase.f = s.timebase.f)
    (lanes : ∀ ok l, (s.lane l).Levelled ok → (t.lane l).Levelled ok) (law : levelsKept s) :
    levelsKept t := by
  rw [levelsKept_iff] at law ⊢
  rw [position, length]
  exact fun l => lanes _ l (law l)

theorem levelsKept_resetBlocks (law : levelsKept s) (h : HostId) (first : Bool) :
    levelsKept (s.resetBlocks h first) := by
  have position := s.resetBlocks_position h first
  refine levelsKept_of_lanes position.1 position.2.1 (fun _ l law => ?_) law
  rw [State.lane_resetBlocks]
  exact law.atPortReset h _

theorem State.completeJob_timebase (s : State) (j : Job) : (s.completeJob j).timebase = s.timebase := by
  simp [State.completeJob, State.setBook]

theorem State.completeJob_lanes (s : State) (j : Job) : (s.completeJob j).lanes = s.lanes := by
  simp [State.completeJob, State.setBook]

theorem levels_blockLaw : BlockLaw fun s => levelsKept s ∧ cuesKept s where
  congr same law :=
    ⟨levelsKept_of_lanes (by rw [same.1]) (by rw [same.1])
      (fun _ l law => by rwa [State.lane_congr same.2.1]) law.1, cuesKept_congr same.2.2.1 law.2⟩
  effect law effect :=
    ⟨levelsKept_of_lanes effect.timebase.1 effect.timebase.2.1
      (fun _ l law => law.effect (effect.lane_effect l)) law.1, cuesKept_ownerEffect law.2 effect⟩
  arrival i law _ :=
    ⟨levelsKept_plainTick law.1 law.2 i, cuesKept_congr (State.arrive_hosts _ i) law.2⟩
  boundary b law next :=
    ⟨levelsKept_boundaryTick law.1 law.2 next b,
      cuesKept_congr (State.arrive_hosts _ _)
        (cuesKept_crossBoundary (cuesKept_congr (State.enterFrame_hosts _) law.2) b)⟩
  completion law _ :=
    ⟨levelsKept_of_lanes (by rw [State.completeJob_timebase]) (by rw [State.completeJob_timebase])
      (fun _ l law => by rwa [State.lane_congr (State.completeJob_lanes _ _)]) law.1,
      cuesKept_completeJob law.2 _⟩
  sessionReset h first law :=
    ⟨levelsKept_resetBlocks law.1 h first, cuesKept_resetBlocks law.2 h first⟩
  powerOn := ⟨levelsKept_reset, cuesKept_reset⟩

/-- Settles O58: no pulse runs on across a boundary, and every cue that starts a pulse fits F. -/
theorem stepKeepsLevels : Obligations.StepKeepsLevels :=
  fun _ _ levels cues run => levels_blockLaw.step ⟨levels, cues⟩ run

end Sys2Proof.Machine
end

section
/-!
PROOFS. The laws of one host record: its slot count, its load, its run lists, and its run record (R40 to
R44, R55, R62, R63, R97, R98).
-/

namespace Sys2Proof.Machine

open Sys2Proof.Safety

variable {s t : State} {h : HostId} {r r' : HostRecord} {b c : BookId}

/-! ### The laws, by book -/

/-- What is kept of a host's books, slot count and load. -/
structure HostRecord.Stored (r : HostRecord) : Prop where
  counted : r.slots = (r.book .A).cues.length + (r.book .B).cues.length + reserved r.load
  load : loadOk r
  short : ∀ b, (r.book b).cues.length ≤ 512
  runList : ∀ b, runListOk (r.book b)

/-- What is kept of a run record with books in the states `st`. -/
structure Running (run : RunRecord) (st : BookId → BookState) : Prop where
  active : ∀ b, run.active = some b ↔ st b = .active
  pending : ∀ b, run.action = .swapTo b ↔ st b = .pending
  halt : run.action = .halt → run.active ≠ none
  rangeA : 1 ≤ run.runA ∧ run.runA ≤ 255
  rangeB : 1 ≤ run.runB ∧ run.runB ≤ 255
  single : run.mode = .single → run.turn = 0
  alternate : run.mode = .alternate →
    run.active ≠ none ∧ run.action = .none ∧ 1 ≤ run.turn ∧ run.turn ≤ 255

/-- The states of a host's books. -/
def HostRecord.states (r : HostRecord) (b : BookId) : BookState := (r.book b).state

/-- What is kept of a host record. -/
structure HostRecord.Lawful (r : HostRecord) : Prop where
  stored : r.Stored
  running : Running r.run r.states

/-- The same books are COMPILING. -/
def HostRecord.SameCompiling (r r' : HostRecord) : Prop :=
  ∀ b, r'.states b = .compiling ↔ r.states b = .compiling

theorem runOk_iff (r : HostRecord) : runOk r ↔ Running r.run r.states := by
  constructor
  · rintro ⟨active, pending, halt, a1, a2, b1, b2, single, alternate⟩
    exact ⟨fun b => active b (mem_allBooks b), fun b => pending b (mem_allBooks b), halt, ⟨a1, a2⟩,
      ⟨b1, b2⟩, single, alternate⟩
  · rintro ⟨active, pending, halt, ⟨a1, a2⟩, ⟨b1, b2⟩, single, alternate⟩
    exact ⟨fun b _ => active b, fun b _ => pending b, halt, a1, a2, b1, b2, single, alternate⟩

theorem booksKept_iff :
    booksKept s ↔ (∀ h, (s.host h).Lawful) ∧ s.drawn ≤ 512 ∧ jobsKept s := by
  constructor
  · rintro ⟨⟨slots, drawn⟩, jobs, runs, lists⟩
    refine ⟨fun h => ⟨⟨(slots h).1, (slots h).2.1, fun b => ?_, fun b => ?_⟩,
      (runOk_iff _).1 (runs h)⟩, drawn, jobs⟩
    · cases b
      · exact (slots h).2.2.1
      · exact (slots h).2.2.2
    · cases b
      · exact (lists h).1
      · exact (lists h).2
  · rintro ⟨law, drawn, jobs⟩
    exact ⟨⟨fun h => ⟨(law h).stored.counted, (law h).stored.load, (law h).stored.short .A,
      (law h).stored.short .B⟩, drawn⟩, jobs, fun h => (runOk_iff _).2 (law h).running,
      fun h => ⟨(law h).stored.runList .A, (law h).stored.runList .B⟩⟩

theorem HostRecord.book_setBook (r : HostRecord) (b c : BookId) (x : Book) :
    (r.setBook b x).book c = if c = b then x else r.book c := by
  split
  · rename_i same
    rw [same, HostRecord.book_setBook_self]
  · rw [HostRecord.book_setBook_ne _ _ ‹_›]

/-! ### Run lists -/

theorem runListOk_of_not_compiled {x : Book} (state : x.state.compiled = false)
    (noList : x.runList = none) : runListOk x := by simp [runListOk, state, noList]

theorem runListOk_edited (x : Book) (cues : List Cue) : runListOk { x.edited with cues := cues } :=
  runListOk_of_not_compiled rfl rfl

/-- A book that was and stays compiled keeps its run list (R42). -/
theorem runListOk_inState {x : Book} (law : runListOk x) {st : BookState}
    (was : x.state.compiled = true) (stays : st.compiled = true) : runListOk (x.inState st) := by
  have list : x.runList = some (buildRunList x.cues) := by simpa [runListOk, was] using law
  simp [runListOk, Book.inState, stays, list]

/-- A DRAFT book has no run list, whatever its cues. -/
theorem runListOk_draft {x : Book} (law : runListOk x) (draft : x.state = .draft) (cues : List Cue) :
    runListOk { x with cues := cues } := by
  have noList : x.runList = none := by simpa [runListOk, draft, BookState.compiled] using law
  exact runListOk_of_not_compiled (by simp [draft, BookState.compiled]) noList

/-! ### Books, slots and loads -/

theorem HostRecord.Stored.target (law : r.Stored) {ld : Load} (open' : r.load = some ld) :
    ld.received < ld.declared ∧ ld.lengthAtOpen + ld.declared ≤ 512 ∧ ld.idle ≤ 7 ∧
      (r.book ld.book).state = .draft ∧
      (r.book ld.book).cues.length = ld.lengthAtOpen + ld.received := law.load ld open'

/-- A book that passes the gate is not the target of a load (R45). -/
theorem HostRecord.Stored.target_ne (law : r.Stored) (gate : r.gate b = none) {ld : Load}
    (open' : r.load = some ld) : ld.book ≠ b := by
  rintro rfl
  obtain ⟨-, -, -, draft, -⟩ := law.target open'
  simp [HostRecord.gate, draft, HostRecord.loadTarget, open'] at gate

theorem HostRecord.idle_of_gate (gate : r.gate b = none) :
    (r.book b).state = .draft ∨ (r.book b).state = .ready := by
  unfold HostRecord.gate at gate
  split at gate <;> simp_all

/-- A book written with the same cues: the counts stand, and a load's target must stay DRAFT. -/
theorem HostRecord.Stored.restate (law : r.Stored) {x : Book} (cues : x.cues = (r.book b).cues)
    (target : ∀ ld, r.load = some ld → ld.book = b → x.state = .draft) (list : runListOk x) :
    (r.setBook b x).Stored where
  counted := by
    have count := law.counted
    cases b <;> simpa [HostRecord.book_setBook, cues] using count
  load := by
    intro ld open'
    have load : r.load = some ld := by simpa using open'
    obtain ⟨more, fits, idle, draft, length⟩ := law.target load
    rw [HostRecord.book_setBook]
    by_cases same : ld.book = b
    · subst same
      rw [if_pos rfl]
      exact ⟨more, fits, idle, target ld load rfl, by rw [cues]; exact length⟩
    · rw [if_neg same]
      exact ⟨more, fits, idle, draft, length⟩
  short := by
    intro c
    rw [HostRecord.book_setBook]
    split
    · rw [cues]
      exact law.short b
    · exact law.short c
  runList := by
    intro c
    rw [HostRecord.book_setBook]
    split
    · exact list
    · exact law.runList c

theorem HostRecord.Stored.setRun (law : r.Stored) (run : RunRecord) : (r.setRun run).Stored :=
  ⟨law.counted, law.load, law.short, law.runList⟩

theorem HostRecord.Stored.move (law : r.Stored) {st : BookState} (was : (r.book b).state.compiled = true)
    (stays : st.compiled = true) : (r.move b st).Stored := by
  refine law.restate rfl (fun ld open' same => ?_) (runListOk_inState (law.runList b) was stays)
  obtain ⟨-, -, -, draft, -⟩ := law.target open'
  rw [same] at draft
  rw [draft] at was
  cases was

theorem HostRecord.Stored.demote (law : r.Stored) (b : BookId) : (r.demote b).Stored :=
  (law.restate (x := (r.book b).demoted) rfl (fun _ _ _ => rfl) (runListOk_of_not_compiled rfl rfl)).setRun _

/-- An accepted edit (R46, R55). -/
theorem HostRecord.Stored.edit (law : r.Stored) (gate : r.gate b = none) {cues : List Cue}
    (short : cues.length ≤ 512) :
    ((r.setBook b { (r.book b).edited with cues := cues }).setSlots
      (r.slots + cues.length - (r.book b).cues.length)).Stored where
  counted := by
    have count := law.counted
    cases b <;> simp <;> omega
  load := by
    intro ld open'
    have open' : r.load = some ld := by simpa using open'
    obtain ⟨more, fits, idle, draft, length⟩ := law.target open'
    rw [HostRecord.setSlots_book, HostRecord.book_setBook, if_neg (law.target_ne gate open')]
    exact ⟨more, fits, idle, draft, length⟩
  short := by
    intro c
    rw [HostRecord.setSlots_book, HostRecord.book_setBook]
    split
    · exact short
    · exact law.short c
  runList := by
    intro c
    rw [HostRecord.setSlots_book, HostRecord.book_setBook]
    split
    · exact runListOk_edited _ _
    · exact law.runList c

/-- A load opened on a book (R55, R65). -/
theorem HostRecord.Stored.openLoad (law : r.Stored) (noLoad : r.load = none) {n : Nat} (positive : 1 ≤ n)
    (short : (r.book b).cues.length + n ≤ 512) :
    (((r.setBook b (r.book b).edited).setSlots (r.slots + n)).setLoad
      (some ⟨b, n, 0, (r.book b).cues.length, 0⟩)).Stored where
  counted := by
    have count := law.counted
    rw [noLoad] at count
    cases b <;> simp [reserved, Book.edited] <;> simp [reserved] at count <;> omega
  load := by
    intro ld open'
    cases open'
    have book : (((r.setBook b (r.book b).edited).setSlots (r.slots + n)).setLoad
        (some ⟨b, n, 0, (r.book b).cues.length, 0⟩)).book b = (r.book b).edited := by simp
    rw [book]
    exact ⟨positive, short, Nat.zero_le 7, rfl, rfl⟩
  short := by
    intro c
    rw [HostRecord.setLoad_book, HostRecord.setSlots_book, HostRecord.book_setBook]
    split
    · exact law.short b
    · exact law.short c
  runList := by
    intro c
    rw [HostRecord.setLoad_book, HostRecord.setSlots_book, HostRecord.book_setBook]
    split
    · exact runListOk_of_not_compiled rfl rfl
    · exact law.runList c

/-- Another cue list for the target of a load, with the slot count and the load that go with it. -/
theorem HostRecord.Stored.reload (law : r.Stored) {ld : Load} (open' : r.load = some ld)
    {cues : List Cue} {slots : Nat} {load : Option Load} (short : cues.length ≤ 512)
    (count : slots + (r.book ld.book).cues.length + reserved (some ld) =
      r.slots + cues.length + reserved load)
    (next : ∀ ld' ∈ load, ld'.book = ld.book ∧ ld'.received < ld'.declared ∧
      ld'.lengthAtOpen + ld'.declared ≤ 512 ∧ ld'.idle ≤ 7 ∧
        cues.length = ld'.lengthAtOpen + ld'.received) :
    (((r.setBook ld.book { r.book ld.book with cues := cues }).setSlots slots).setLoad load).Stored where
  counted := by
    have counted := law.counted
    rw [open'] at counted
    cases target : ld.book <;> rw [target] at count <;> simp <;> omega
  load := by
    intro ld' again
    obtain ⟨-, -, -, draft, -⟩ := law.target open'
    obtain ⟨book, more, fits, idle, length⟩ := next ld' again
    rw [HostRecord.setLoad_book, HostRecord.setSlots_book, HostRecord.book_setBook, if_pos book]
    exact ⟨more, fits, idle, draft, length⟩
  short := by
    intro c
    rw [HostRecord.setLoad_book, HostRecord.setSlots_book, HostRecord.book_setBook]
    split
    · exact short
    · exact law.short c
  runList := by
    intro c
    rw [HostRecord.setLoad_book, HostRecord.setSlots_book, HostRecord.book_setBook]
    obtain ⟨-, -, -, draft, -⟩ := law.target open'
    split
    · exact runListOk_draft (law.runList ld.book) draft cues
    · exact law.runList c

theorem HostRecord.Stored.reload_kept (law : r.Stored) {ld : Load} (open' : r.load = some ld)
    {cues : List Cue} {load : Option Load} (short : cues.length ≤ 512)
    (count : (r.book ld.book).cues.length + reserved (some ld) = cues.length + reserved load)
    (next : ∀ ld' ∈ load, ld'.book = ld.book ∧ ld'.received < ld'.declared ∧
      ld'.lengthAtOpen + ld'.declared ≤ 512 ∧ ld'.idle ≤ 7 ∧
        cues.length = ld'.lengthAtOpen + ld'.received) :
    ((r.setBook ld.book { r.book ld.book with cues := cues }).setLoad load).Stored := by
  have stored := law.reload (slots := r.slots) open' short (by omega) next
  rwa [HostRecord.setBook_setSlots_self] at stored

/-- The rollback of a load (R69). -/
theorem HostRecord.Stored.rollBack (law : r.Stored) {ld : Load} (open' : r.load = some ld) :
    (r.rollBack ld).Stored := by
  obtain ⟨more, fits, -, -, length⟩ := law.target open'
  have taken : ((r.book ld.book).cues.take ld.lengthAtOpen).length = ld.lengthAtOpen := by
    rw [List.length_take, length]
    omega
  have counted := law.counted
  have slots : ld.declared ≤ r.slots := by
    rw [open'] at counted
    simp only [reserved] at counted
    cases target : ld.book <;> rw [target] at length <;> omega
  refine law.reload open' (by omega) ?_ (by simp)
  simp only [reserved, taken, length]
  omega

/-! ### The run record -/

/-- A book that is neither PENDING nor ACTIVE changes to a state that is neither (R98). -/
theorem Running.update {run : RunRecord} {st st' : BookId → BookState} (law : Running run st)
    (active : ∀ c, st' c = .active ↔ st c = .active) (pending : ∀ c, st' c = .pending ↔ st c = .pending) :
    Running run st' :=
  ⟨fun c => (law.active c).trans (active c).symm, fun c => (law.pending c).trans (pending c).symm,
    law.halt, law.rangeA, law.rangeB, law.single, law.alternate⟩

theorem HostRecord.states_setBook (r : HostRecord) (b c : BookId) (x : Book) :
    (r.setBook b x).states c = if c = b then x.state else r.states c := by
  rw [HostRecord.states, HostRecord.book_setBook]
  split <;> rfl

/-- A book that is not PENDING or ACTIVE is written, and is neither afterwards. -/
theorem HostRecord.running_setBook (law : Running r.run r.states) {x : Book}
    (was : r.states b ≠ .active ∧ r.states b ≠ .pending) (now : x.state ≠ .active ∧ x.state ≠ .pending) :
    Running (r.setBook b x).run (r.setBook b x).states := by
  rw [HostRecord.setBook_run]
  refine law.update (fun c => ?_) (fun c => ?_) <;> rw [HostRecord.states_setBook] <;> split
  · rename_i same
    subst same
    simp [was.1, now.1]
  · rfl
  · rename_i same
    subst same
    simp [was.2, now.2]
  · rfl

theorem HostRecord.sameCompiling_setBook {x : Book} (was : r.states b ≠ .compiling)
    (now : x.state ≠ .compiling) : r.SameCompiling (r.setBook b x) := by
  intro c
  rw [HostRecord.states_setBook]
  split
  · rename_i same
    subst same
    simp [was, now]
  · rfl

theorem HostRecord.sameCompiling_refl (r : HostRecord) : r.SameCompiling r := fun _ => Iff.rfl

theorem HostRecord.SameCompiling.trans {r'' : HostRecord} (first : r.SameCompiling r')
    (second : r'.SameCompiling r'') : r.SameCompiling r'' := fun b => (second b).trans (first b)

/-! ### What a request makes of the record -/

theorem HostMove.stored (law : (s.host h).Stored) (running : Running (s.host h).run (s.host h).states)
    (move : HostMove s h r) : r.Stored := by
  have compiled {b : BookId} {st : BookState} (state : (s.book h b).state = st)
      (is : st.compiled = true) : ((s.host h).book b).state.compiled = true := by
    change (s.book h b).state.compiled = true
    rw [state, is]
  cases move with
  | edit b cues gate fields short room =>
    refine law.edit gate ?_
    rcases short with short | ⟨a, short⟩
    · exact short
    · exact short.trans (law.short a)
  | openLoad b n positive gate short noLoad => exact law.openLoad noLoad positive short
  | feed ld cues load fields more =>
    obtain ⟨-, fits, -, -, length⟩ := law.target load
    have appended : (((s.host h).book ld.book).cues ++ cues).length =
        ld.lengthAtOpen + ld.received + cues.length := by rw [List.length_append, length]
    refine law.reload_kept (cues := ((s.host h).book ld.book).cues ++ cues) load (by omega) ?_ fun ld' same => ?_
    · simp only [reserved, appended, length]
      omega
    · cases same
      exact ⟨rfl, more, fits, Nat.zero_le 7, by dsimp only; omega⟩
  | complete ld cues load fields fits' all =>
    obtain ⟨more, fits, -, -, length⟩ := law.target load
    have appended : (((s.host h).book ld.book).cues ++ cues).length =
        ld.lengthAtOpen + ld.received + cues.length := by rw [List.length_append, length]
    refine law.reload_kept (cues := ((s.host h).book ld.book).cues ++ cues) load (by omega) ?_ (by simp)
    simp only [reserved, appended, length]
    omega
  | rollBack ld load => exact law.rollBack load
  | swap b single ready => exact (law.move (compiled ready rfl) rfl).setRun _
  | cancelSwap b action => exact (law.move (compiled ((running.pending b).1 action) rfl) rfl).setRun _
  | halt => exact law.setRun _
  | setSingle => exact law.setRun _
  | setAlternate => exact law.setRun _

theorem HostRecord.states_move (r : HostRecord) (b c : BookId) (st : BookState) :
    (r.move b st).states c = if c = b then st else r.states c := by
  rw [HostRecord.move, HostRecord.states_setBook]
  rfl

theorem HostMove.running (running : Running (s.host h).run (s.host h).states)
    (stored : (s.host h).Stored) (move : HostMove s h r) : Running r.run r.states := by
  have idle {b : BookId} (gate : (s.host h).gate b = none) :
      (s.host h).states b ≠ .active ∧ (s.host h).states b ≠ .pending := by
    rcases HostRecord.idle_of_gate gate with state | state <;> simp [HostRecord.states, state]
  have draft {ld : Load} (load : (s.host h).load = some ld) : (s.host h).states ld.book = .draft :=
    (stored.target load).2.2.2.1
  have drafted {ld : Load} (load : (s.host h).load = some ld) (cues : List Cue) :
      Running ((s.host h).setBook ld.book { (s.host h).book ld.book with cues := cues }).run
        ((s.host h).setBook ld.book { (s.host h).book ld.book with cues := cues }).states := by
    have state := draft load
    refine HostRecord.running_setBook running (by simp [state]) ?_
    have state : ((s.host h).book ld.book).state = .draft := state
    simp [state]
  cases move with
  | edit b cues gate =>
    exact HostRecord.running_setBook running (idle gate) (x := { ((s.host h).book b).edited with cues := cues })
      ⟨nofun, nofun⟩
  | openLoad b n positive gate =>
    exact HostRecord.running_setBook running (idle gate) (x := ((s.host h).book b).edited)
      ⟨nofun, nofun⟩
  | feed ld cues load => exact drafted load _
  | complete ld cues load => exact drafted load _
  | rollBack ld load => exact drafted load _
  | swap b single ready idle =>
    have ready : (s.host h).states b = .ready := ready
    have states := (s.host h).states_move b
    refine ⟨fun c => ?_, fun c => ?_, nofun, running.rangeA, running.rangeB, running.single,
      fun alternate => absurd alternate single⟩
    · refine (running.active c).trans ?_
      change _ ↔ ((s.host h).move b .pending).states c = _
      rw [states]
      by_cases same : c = b <;> simp [same, ready]
    · change PendingAction.swapTo b = .swapTo c ↔ ((s.host h).move b .pending).states c = _
      rw [states]
      by_cases same : c = b
      · simp [same]
      · have none := running.pending c
        have notPending : (s.host h).states c ≠ .pending := fun state => by
          have swap := none.2 state
          have idle : (s.host h).run.action = .none := idle
          rw [idle] at swap
          cases swap
        simp [same, Ne.symm same, notPending]
  | cancelSwap b action =>
    have pending := (running.pending b).1 action
    have states := (s.host h).states_move b
    refine ⟨fun c => ?_, fun c => ?_, nofun, running.rangeA, running.rangeB, running.single,
      fun alternate => ?_⟩
    · refine (running.active c).trans ?_
      change _ ↔ ((s.host h).move b .ready).states c = _
      rw [states]
      by_cases same : c = b <;> simp [same, pending]
    · change PendingAction.none = .swapTo c ↔ ((s.host h).move b .ready).states c = _
      rw [states]
      by_cases same : c = b
      · simp [same]
      · have notPending : (s.host h).states c ≠ .pending := fun state => by
          have swap := (running.pending c).2 state
          have action : (s.host h).run.action = .swapTo b := action
          rw [action] at swap
          exact same (PendingAction.swapTo.inj swap).symm
        simp [same, notPending]
    · obtain ⟨-, idle, -⟩ := running.alternate alternate
      have action : (s.host h).run.action = .swapTo b := action
      rw [idle] at action
      cases action
  | halt single idle active =>
    refine ⟨running.active, fun c => ?_, fun _ => active, running.rangeA, running.rangeB,
      running.single, fun alternate => absurd alternate single⟩
    have idle : (s.host h).run.action = .none := idle
    have none := running.pending c
    rw [idle] at none
    exact ⟨nofun, fun state => nomatch none.2 state⟩
  | setSingle =>
    exact ⟨running.active, running.pending, running.halt, running.rangeA, running.rangeB, fun _ => rfl,
      nofun⟩
  | setAlternate b runA runB turn rangeA rangeB counter idle active =>
    refine ⟨running.active, running.pending, running.halt, rangeA, rangeB, nofun, fun _ => ?_⟩
    have active : (s.host h).run.active = some b := active
    have range : 1 ≤ turn ∧ turn ≤ 255 := by omega
    exact ⟨by simp [State.run, active], idle, range⟩

theorem HostMove.sameCompiling (stored : (s.host h).Stored)
    (running : Running (s.host h).run (s.host h).states) (move : HostMove s h r) :
    (s.host h).SameCompiling r := by
  have idle {b : BookId} (gate : (s.host h).gate b = none) : (s.host h).states b ≠ .compiling := by
    rcases HostRecord.idle_of_gate gate with state | state <;> simp [HostRecord.states, state]
  have drafted {ld : Load} (load : (s.host h).load = some ld) (cues : List Cue) :
      (s.host h).SameCompiling
        ((s.host h).setBook ld.book { (s.host h).book ld.book with cues := cues }) := by
    have state : ((s.host h).book ld.book).state = .draft := (stored.target load).2.2.2.1
    exact HostRecord.sameCompiling_setBook (by simp [HostRecord.states, state]) (by simp [state])
  cases move with
  | edit b cues gate =>
    exact HostRecord.sameCompiling_setBook (x := { ((s.host h).book b).edited with cues := cues })
      (idle gate) nofun
  | openLoad b n positive gate =>
    exact HostRecord.sameCompiling_setBook (x := ((s.host h).book b).edited) (idle gate) nofun
  | feed ld cues load => exact drafted load _
  | complete ld cues load => exact drafted load _
  | rollBack ld load => exact drafted load _
  | swap b single ready =>
    have ready : (s.host h).states b = .ready := ready
    exact HostRecord.sameCompiling_setBook (x := ((s.host h).book b).inState .pending)
      (by simp [ready]) nofun
  | cancelSwap b action =>
    have pending := (running.pending b).1 action
    exact HostRecord.sameCompiling_setBook (x := ((s.host h).book b).inState .ready)
      (by simp [pending]) nofun
  | halt => exact HostRecord.sameCompiling_refl _
  | setSingle => exact HostRecord.sameCompiling_refl _
  | setAlternate => exact HostRecord.sameCompiling_refl _

theorem HostMove.lawful (law : (s.host h).Lawful) (move : HostMove s h r) : r.Lawful :=
  ⟨move.stored law.stored law.running, move.running law.running law.stored⟩

/-! ### What a boundary makes of the record -/

theorem HostRecord.Stored.idle (law : r.Stored) {ld : Load} (open' : r.load = some ld)
    (below : ld.idle + 1 < idleLimit) :
    (r.setLoad (some { ld with idle := ld.idle + 1 })).Stored := by
  obtain ⟨more, fits, -, draft, length⟩ := law.target open'
  have counted := law.counted
  rw [open'] at counted
  refine ⟨counted, fun ld' same => ?_, law.short, law.runList⟩
  cases same
  have idle : ld.idle + 1 ≤ 7 := by
    simp only [idleLimit] at below
    omega
  exact ⟨more, fits, idle, draft, length⟩

theorem HostRecord.states_leave (r : HostRecord) (c : BookId) :
    r.leave.states c = if r.run.active = some c then .ready else r.states c := by
  unfold HostRecord.leave
  cases active : r.run.active with
  | none => simp
  | some a =>
    simp only [HostRecord.states_move, Option.some.injEq]
    by_cases same : c = a
    · simp [same]
    · simp [same, Ne.symm same]

theorem HostRecord.leave_load (r : HostRecord) : r.leave.load = r.load := by
  unfold HostRecord.leave
  split
  · simp [HostRecord.move]
  · rfl

theorem Running.compiled_active (running : Running r.run r.states) {a : BookId}
    (active : r.run.active = some a) : (r.book a).state.compiled = true := by
  have state : (r.book a).state = .active := (running.active a).1 active
  rw [state]
  rfl

theorem HostRecord.Stored.leave (law : r.Stored) (running : Running r.run r.states) : r.leave.Stored := by
  unfold HostRecord.leave
  split
  · exact law.move (running.compiled_active ‹_›) rfl
  · exact law

/-- No other book than the one of a pending SWAP is PENDING, and none where no SWAP is pending. -/
theorem Running.not_pending {run : RunRecord} {st : BookId → BookState} (law : Running run st)
    (other : run.action ≠ .swapTo c) : st c ≠ .pending := fun state => other ((law.pending c).2 state)

theorem Running.not_active {run : RunRecord} {st : BookId → BookState} (law : Running run st)
    (other : run.active ≠ some c) : st c ≠ .active := fun state => other ((law.active c).2 state)

/-- The record after a SWAP carried out: the book that was pending is active, and no action pends. -/
theorem HostRecord.Lawful.carrySwap (law : r.Lawful) (single : r.run.mode = .single)
    (action : r.run.action = .swapTo b) : (r.carrySwap b).Lawful ∧ r.SameCompiling (r.carrySwap b) := by
  obtain ⟨stored, running⟩ := law
  have pending : r.states b = .pending := (running.pending b).1 action
  have notActive : r.run.active ≠ some b := fun active => by
    have state := (running.active b).1 active
    rw [pending] at state
    cases state
  have states (c : BookId) : (r.carrySwap b).states c =
      if c = b then .active else if r.run.active = some c then .ready else r.states c :=
    (r.leave.states_move b c .active).trans (by rw [HostRecord.states_leave])
  have leaveState : (r.leave.book b).state.compiled = true := by
    have same : r.leave.states b = .pending := by rw [HostRecord.states_leave, if_neg notActive, pending]
    change (r.leave.states b).compiled = true
    rw [same]
    rfl
  refine ⟨⟨((stored.leave running).move leaveState rfl).setRun _, ?_⟩, fun c => ?_⟩
  · refine ⟨fun c => ?_, fun c => ?_, nofun, running.rangeA, running.rangeB, running.single,
      fun alternate => absurd (single.symm.trans alternate) (by decide)⟩
    · change some b = some c ↔ _
      rw [states]
      by_cases same : c = b
      · simp [same]
      · by_cases was : r.run.active = some c
        · simp [same, Ne.symm same, was]
        · simp [same, Ne.symm same, was, running.not_active was]
    · change PendingAction.none = .swapTo c ↔ _
      rw [states]
      by_cases same : c = b
      · simp [same]
      · have other : r.run.action ≠ .swapTo c := by simp [action, Ne.symm same]
        by_cases was : r.run.active = some c
        · simp [same, was]
        · simp [same, was, running.not_pending other]
  · rw [states]
    by_cases same : c = b
    · simp [same, pending]
    · by_cases was : r.run.active = some c
      · simp [same, was, (running.active c).1 was]
      · simp [same, was]

theorem HostRecord.Lawful.carryHalt (law : r.Lawful) {a : BookId} (single : r.run.mode = .single)
    (action : r.run.action = .halt) (active : r.run.active = some a) :
    (r.carryHalt a).Lawful ∧ r.SameCompiling (r.carryHalt a) := by
  obtain ⟨stored, running⟩ := law
  have states (c : BookId) : (r.carryHalt a).states c = if c = a then .ready else r.states c :=
    r.states_move a c .ready
  have state := (running.active a).1 active
  refine ⟨⟨(stored.move (running.compiled_active active) rfl).setRun _, ?_⟩, fun c => ?_⟩
  · refine ⟨fun c => ?_, fun c => ?_, nofun, running.rangeA, running.rangeB, running.single,
      fun alternate => absurd (single.symm.trans alternate) (by decide)⟩
    · change none = some c ↔ _
      rw [states]
      by_cases same : c = a
      · simp [same]
      · have other : r.run.active ≠ some c := by simp [active, Ne.symm same]
        simp [same, running.not_active other]
    · change PendingAction.none = .swapTo c ↔ _
      rw [states]
      by_cases same : c = a
      · simp [same]
      · simp [same, running.not_pending (c := c) (by simp [action])]
  · rw [states]
    by_cases same : c = a
    · simp [same, state]
    · simp [same]

theorem BookId.eq_other_of_ne {a c : BookId} (other : c ≠ a) : c = a.other := by
  revert other
  cases a <;> cases c <;> decide

theorem Running.runOf_range {run : RunRecord} {st : BookId → BookState} (law : Running run st)
    (b : BookId) : 1 ≤ run.runOf b ∧ run.runOf b ≤ 255 := by
  cases b
  · exact law.rangeA
  · exact law.rangeB

theorem HostRecord.Lawful.takeTurn (law : r.Lawful) {a : BookId} (mode : r.run.mode = .alternate)
    (active : r.run.active = some a) : (r.takeTurn a).Lawful ∧ r.SameCompiling (r.takeTurn a) := by
  obtain ⟨stored, running⟩ := law
  obtain ⟨-, idle, -⟩ := running.alternate mode
  have state := (running.active a).1 active
  unfold HostRecord.takeTurn
  split
  · rename_i ready
    have ready : r.states a.other = .ready := ready
    have states (c : BookId) : ((r.move a .ready).move a.other .active).states c =
        if c = a.other then .active else .ready := by
      rw [HostRecord.states_move, HostRecord.states_move]
      by_cases same : c = a.other
      · simp [same]
      · by_cases isA : c = a
        · simp [isA]
        · exact absurd (BookId.eq_other_of_ne isA) same
    have otherState : ((r.move a .ready).book a.other).state.compiled = true := by
      change ((r.move a .ready).states a.other).compiled = true
      rw [HostRecord.states_move, if_neg (BookId.other_ne a), ready]
      rfl
    refine ⟨⟨((stored.move (running.compiled_active active) rfl).move otherState rfl).setRun _, ?_⟩,
      fun c => ?_⟩
    · refine ⟨fun c => ?_, fun c => ?_, fun halt => absurd (idle.symm.trans halt) (by decide),
        running.rangeA, running.rangeB,
        fun single => absurd (mode.symm.trans single) (by decide),
        fun _ => ⟨nofun, idle, running.runOf_range a.other⟩⟩
      · change some a.other = some c ↔ ((r.move a .ready).move a.other .active).states c = _
        rw [states]
        by_cases same : c = a.other
        · simp [same]
        · simp [same, Ne.symm same]
      · change r.run.action = .swapTo c ↔ ((r.move a .ready).move a.other .active).states c = _
        rw [states, idle]
        by_cases same : c = a.other <;> simp [same]
    · change ((r.move a .ready).move a.other .active).states c = _ ↔ _
      rw [states]
      by_cases same : c = a.other
      · simp [same, ready]
      · have isA : c = a := by
          by_contra notA
          exact same (BookId.eq_other_of_ne notA)
        simp [isA, state]
  · refine ⟨⟨stored.setRun _, running.active, running.pending, running.halt, running.rangeA,
      running.rangeB, fun single => absurd (mode.symm.trans single) (by decide), fun _ =>
        ⟨by simp [active], idle, running.runOf_range a⟩⟩, HostRecord.sameCompiling_refl r⟩

theorem HostRecord.Lawful.runBoundary (law : r.Lawful) :
    r.runBoundary.Lawful ∧ r.SameCompiling r.runBoundary := by
  unfold HostRecord.runBoundary
  split
  · rename_i b mode action
    exact law.carrySwap mode action
  · rename_i a mode action active
    exact law.carryHalt mode action active
  · rename_i a mode active
    split
    · exact law.takeTurn mode active
    · rename_i later
      obtain ⟨stored, running⟩ := law
      obtain ⟨present, idle, -, most⟩ := running.alternate mode
      have range : 1 ≤ r.run.turn - 1 ∧ r.run.turn - 1 ≤ 255 := by omega
      exact ⟨⟨stored.setRun _, running.active, running.pending, running.halt, running.rangeA,
        running.rangeB, fun single => absurd (mode.symm.trans single) (by decide), fun _ =>
          ⟨present, idle, range⟩⟩,
        HostRecord.sameCompiling_refl r⟩
  · exact ⟨law, HostRecord.sameCompiling_refl r⟩

theorem HostRecord.states_demote (r : HostRecord) (b c : BookId) :
    (r.demote b).states c = if c = b then .draft else r.states c :=
  r.states_setBook b c _

theorem HostRecord.Lawful.demote (law : r.Lawful)
    (idle : (r.book b).state = .ready ∨ (r.book b).state = .pending) :
    (r.demote b).Lawful ∧ r.SameCompiling (r.demote b) := by
  obtain ⟨stored, running⟩ := law
  have idle : r.states b = .ready ∨ r.states b = .pending := idle
  refine ⟨⟨stored.demote b, ?_⟩, fun c => ?_⟩
  · have notActive : r.run.active ≠ some b := fun active => by
      have state := (running.active b).1 active
      rw [state] at idle
      simp at idle
    have actives (c : BookId) : r.run.active = some c ↔ (r.demote b).states c = .active := by
      rw [HostRecord.states_demote, running.active]
      by_cases same : c = b
      · have other := running.not_active notActive
        simp [same, other]
      · simp [same]
    by_cases swap : r.states b = .pending
    · have action := (running.pending b).2 swap
      have run : (r.demote b).run = { r.run with action := .none } := if_pos swap
      rw [run]
      refine ⟨actives, fun c => ?_, nofun, running.rangeA, running.rangeB, running.single,
        fun alternate => ?_⟩
      · rw [HostRecord.states_demote]
        by_cases same : c = b
        · simp [same]
        · have other : r.run.action ≠ .swapTo c := by simp [action, Ne.symm same]
          simp [same, running.not_pending other]
      · obtain ⟨present, -, range⟩ := running.alternate alternate
        exact ⟨present, rfl, range⟩
    · have run : (r.demote b).run = r.run := if_neg swap
      rw [run]
      refine ⟨actives, fun c => ?_, running.halt, running.rangeA, running.rangeB, running.single,
        running.alternate⟩
      rw [HostRecord.states_demote, running.pending]
      by_cases same : c = b
      · simp [same, swap]
      · simp [same]
  · rw [HostRecord.states_demote]
    by_cases same : c = b
    · rcases idle with state | state <;> simp [same, state]
    · simp [same]

theorem BoundaryMove.lawful (move : BoundaryMove r r') (law : r.Lawful) :
    r'.Lawful ∧ r.SameCompiling r' := by
  cases move with
  | load =>
    unfold HostRecord.loadBoundary
    split
    · exact ⟨law, HostRecord.sameCompiling_refl r⟩
    · rename_i ld load
      split
      · exact ⟨⟨law.stored.idle load ‹_›, law.running⟩, HostRecord.sameCompiling_refl r⟩
      · have state : (r.book ld.book).state = .draft := (law.stored.target load).2.2.2.1
        refine ⟨⟨law.stored.rollBack load, ?_⟩, ?_⟩
        · exact HostRecord.running_setBook law.running
            (x := { r.book ld.book with cues := (r.book ld.book).cues.take ld.lengthAtOpen })
            (by simp [HostRecord.states, state]) (by simp [state])
        · exact HostRecord.sameCompiling_setBook
            (x := { r.book ld.book with cues := (r.book ld.book).cues.take ld.lengthAtOpen })
            (by simp [HostRecord.states, state]) (by simp [state])
  | run => exact law.runBoundary
  | demote b idle => exact law.demote idle

theorem HostRecord.move_slots (r : HostRecord) (b : BookId) (st : BookState) :
    (r.move b st).slots = r.slots := HostRecord.setBook_slots _ _ _

theorem HostRecord.runBoundary_slots (r : HostRecord) : r.runBoundary.slots = r.slots := by
  unfold HostRecord.runBoundary HostRecord.carrySwap HostRecord.carryHalt HostRecord.takeTurn
  split
  · rw [HostRecord.setRun_slots, HostRecord.move_slots]
    unfold HostRecord.leave
    split
    · exact HostRecord.move_slots _ _ _
    · rfl
  · rw [HostRecord.setRun_slots, HostRecord.move_slots]
  · split
    · split
      · rw [HostRecord.setRun_slots, HostRecord.move_slots, HostRecord.move_slots]
      · rfl
    · rfl
  · rfl

/-- A boundary takes slots back, and gives none (R69). -/
theorem BoundaryMove.slots (move : BoundaryMove r r') : r'.slots ≤ r.slots := by
  cases move with
  | load =>
    unfold HostRecord.loadBoundary
    split
    · exact le_rfl
    · split
      · exact le_rfl
      · exact Nat.sub_le _ _
  | run => exact r.runBoundary_slots.le
  | demote b =>
    rw [HostRecord.demote, HostRecord.setRun_slots, HostRecord.setBook_slots]

end Sys2Proof.Machine
end

section
/-!
PROOFS. Books, slots, loads, jobs, run records and run lists: every event of the part keeps their laws
(R40 to R44, R55, R62, R63, R76, R97, R98).
-/

namespace Sys2Proof.Machine

open Sys2Proof.Safety

variable {s t : State} {h g : HostId} {r : HostRecord} {b c : BookId}

/-! ### Hosts kept one by one -/

/-- What an event keeps of a host record that it does not give slots or a job. -/
structure HostKept (r r' : HostRecord) : Prop where
  lawful : r'.Lawful
  compiling : r.SameCompiling r'
  slots : r'.slots ≤ r.slots

theorem HostKept.refl (law : r.Lawful) : HostKept r r :=
  ⟨law, HostRecord.sameCompiling_refl r, le_rfl⟩

theorem HostKept.moved {r' r'' : HostRecord} (kept : HostKept r r') (move : BoundaryMove r' r'') :
    HostKept r r'' := by
  obtain ⟨lawful, compiling⟩ := move.lawful kept.lawful
  exact ⟨lawful, kept.compiling.trans compiling, move.slots.trans kept.slots⟩

theorem State.drawn_mono (less : ∀ h, (t.host h).slots ≤ (s.host h).slots) : t.drawn ≤ s.drawn := by
  rw [State.drawn_eq, State.drawn_eq]
  have := less 0
  have := less 1
  have := less 2
  have := less 3
  omega

theorem jobsKept_of_same (jobs : t.jobs = s.jobs)
    (same : ∀ h, (s.host h).SameCompiling (t.host h)) (law : jobsKept s) : jobsKept t := by
  refine ⟨by rw [jobs]; exact law.1, fun h b mem => ?_⟩
  rw [jobs]
  exact (law.2 h b mem).trans (same h b).symm

theorem booksKept_of_hosts (jobs : t.jobs = s.jobs) (law : booksKept s)
    (each : ∀ h, HostKept (s.host h) (t.host h)) : booksKept t := by
  rw [booksKept_iff] at law ⊢
  exact ⟨fun h => (each h).lawful, (State.drawn_mono fun h => (each h).slots).trans law.2.1,
    jobsKept_of_same jobs (fun h => (each h).compiling) law.2.2⟩

theorem booksKept_congr (hosts : t.hosts = s.hosts) (jobs : t.jobs = s.jobs) (law : booksKept s) :
    booksKept t := by
  refine booksKept_of_hosts jobs law fun h => ?_
  rw [State.host_congr hosts]
  exact .refl ((booksKept_iff.1 law).1 h)

theorem hosts_kept_refl (law : booksKept s) (h : HostId) : HostKept (s.host h) (s.host h) :=
  .refl ((booksKept_iff.1 law).1 h)

theorem State.clearProposal_jobs (s : State) : s.clearProposal.jobs = s.jobs := by
  unfold State.clearProposal
  split
  · dsimp only
    split <;> rfl
  · rfl

theorem State.endProposal_jobs (s : State) (p : Proposal) (o : ProposalOutcome) :
    (s.endProposal p o).jobs = s.jobs := by
  simp [State.endProposal, State.clearProposal_jobs]

theorem State.agree_jobs (s : State) (p : Proposal) : (s.agree p).jobs = s.jobs := by
  simp [State.agree, State.recordAgreed]

/-- The change to AGREED demotes READY and PENDING books (R104, R154). -/
theorem booksKept_agree (law : booksKept s) (p : Proposal) : booksKept (s.agree p) :=
  booksKept_of_hosts (s.agree_jobs p) law
    (State.host_demoteWhere_keeps (P := fun g r => HostKept (s.host g) r)
      (fun _ _ _ move kept => kept.moved move) (fun _ _ _ misfit => Book.idle_of_idleMisfit misfit)
      (s.recordAgreed p) (hosts_kept_refl law))

theorem State.proposalBoundary_jobs (s : State) : s.proposalBoundary.1.jobs = s.jobs := by
  unfold State.proposalBoundary
  split
  · rfl
  · split
    · simp
    · dsimp only
      split
      · rfl
      · split
        · simp [State.endProposal_jobs]
        · rfl

theorem Crossing.react_jobs (c : Crossing) (r : BoundaryReaction) :
    (c.react r).state.jobs = c.state.jobs := by
  cases r with
  | lane l => simp [Crossing.react]
  | check l => simp [Crossing.react]
  | load h => simp [Crossing.react]
  | run h =>
    simp only [Crossing.react, Crossing.run]
    split
    · simp
    · split
      · dsimp only
        split <;> simp
      · simp
  | agreement =>
    simp only [Crossing.react, State.agreementBoundary, State.demoteWhere_jobs]
    exact State.proposalBoundary_jobs _

theorem State.crossBoundary_jobs (s : State) (b : BoundaryIn) : (s.crossBoundary b).jobs = s.jobs := by
  obtain ⟨c, same, result⟩ := s.crossBoundary_keeps b (fun c => c.state.jobs = s.jobs)
    (fun c r same => (c.react_jobs r).trans same) rfl
  rw [result, same]

theorem booksKept_crossBoundary (law : booksKept s) (b : BoundaryIn) :
    booksKept (s.crossBoundary b) :=
  booksKept_of_hosts (s.crossBoundary_jobs b) law
    (State.host_crossBoundary_keeps (P := fun g r => HostKept (s.host g) r)
      (fun _ _ _ move kept => kept.moved move) s b (hosts_kept_refl law))

/-! ### Jobs -/

/-- A host has at most one job (R76). -/
theorem job_unique (law : jobsKept s) {j k : Job} (memJ : j ∈ s.jobs) (memK : k ∈ s.jobs)
    (same : j.host = k.host) : j = k := List.inj_on_of_nodup_map law.1 memJ memK same

theorem job_mem_iff_compiling (law : jobsKept s) (g : HostId) (c : BookId) :
    (⟨g, c⟩ : Job) ∈ s.jobs ↔ (s.book g c).state = .compiling := law.2 g c (mem_allBooks c)

/-- One book of one host written, and the queue with it. -/
theorem booksKept_setBook (law : booksKept s) {x : Book} {jobs : List Job}
    (cues : x.cues = (s.book h b).cues)
    (target : ∀ ld, (s.host h).load = some ld → ld.book = b → x.state = .draft) (list : runListOk x)
    (was : (s.book h b).state ≠ .active ∧ (s.book h b).state ≠ .pending)
    (now : x.state ≠ .active ∧ x.state ≠ .pending) (nodup : (jobs.map (·.host)).Nodup)
    (queue : ∀ g c, (⟨g, c⟩ : Job) ∈ jobs ↔
      (if g = h ∧ c = b then x.state else (s.book g c).state) = .compiling) :
    booksKept ((s.setBook h b x).setJobs jobs) := by
  rw [booksKept_iff] at law ⊢
  obtain ⟨hosts, drawn, -⟩ := law
  have host (g : HostId) : ((s.setBook h b x).setJobs jobs).host g =
      if g = h then (s.host h).setBook b x else s.host g := s.host_setHost h g _
  refine ⟨fun g => ?_, (State.drawn_mono fun g => ?_).trans drawn, nodup, fun g c _ => ?_⟩
  · rw [host]
    split
    · exact ⟨(hosts h).stored.restate cues target list,
        HostRecord.running_setBook (hosts h).running was now⟩
    · exact hosts g
  · rw [host]
    split
    · rename_i same
      rw [same, HostRecord.setBook_slots]
    · exact le_rfl
  · have book : ((s.setBook h b x).setJobs jobs).book g c =
        if g = h ∧ c = b then x else s.book g c := s.book_setBook h g b c x
    refine (queue g c).trans ?_
    rw [book]
    split <;> rfl

theorem nodup_hosts_filter {jobs : List Job} (nodup : (jobs.map (·.host)).Nodup) (p : Job → Bool) :
    ((jobs.filter p).map (·.host)).Nodup :=
  nodup.sublist ((List.filter_sublist).map _)

/-- A COMPILING book written, and its job taken from the queue. -/
theorem booksKept_jobEnded (law : booksKept s) {j : Job} (job : j ∈ s.jobs) {x : Book} {jobs : List Job}
    (cues : x.cues = (s.book j.host j.book).cues) (list : runListOk x)
    (now : x.state = .draft ∨ x.state = .ready) (nodup : (jobs.map (·.host)).Nodup)
    (rest : ∀ k, k ∈ jobs ↔ k ∈ s.jobs ∧ k ≠ j) :
    booksKept ((s.setBook j.host j.book x).setJobs jobs) := by
  obtain ⟨hosts, -, jobsLaw⟩ := booksKept_iff.1 law
  have compiling : (s.book j.host j.book).state = .compiling := (job_mem_iff_compiling jobsLaw _ _).1 job
  refine booksKept_setBook law cues (fun ld load same => ?_) list (by simp [compiling])
    (by rcases now with state | state <;> simp [state]) nodup fun g c => ?_
  · obtain ⟨-, -, -, draft, -⟩ := (hosts j.host).stored.target load
    have state : ((s.host j.host).book j.book).state = .compiling := compiling
    rw [same, state] at draft
    cases draft
  · rw [rest]
    split
    · rename_i same
      obtain ⟨rfl, rfl⟩ := same
      rcases now with state | state <;> simp [state]
    · rename_i other
      rw [job_mem_iff_compiling jobsLaw]
      have ne : (⟨g, c⟩ : Job) ≠ j := fun same => other ⟨congrArg Job.host same, congrArg Job.book same⟩
      simp [ne]

/-! ### Requests -/

theorem hostId_cases (h : HostId) : h = 0 ∨ h = 1 ∨ h = 2 ∨ h = 3 := by
  revert h
  decide

/-- The draws on the common slots when one host's slot count changes (R55). -/
theorem State.drawn_setHost (s : State) (h : HostId) (r : HostRecord) :
    (s.setHost h r).drawn + draw (s.host h).slots = s.drawn + draw r.slots := by
  rw [State.drawn_eq, State.drawn_eq]
  have slots (g : HostId) : ((s.setHost h r).host g).slots =
      if g = h then r.slots else (s.host g).slots := by
    rw [State.host_setHost]
    split <;> rfl
  simp only [slots, draw, reserveSlots]
  rcases hostId_cases h with rfl | rfl | rfl | rfl <;>
    simp only [reduceIte, Fin.reduceEq] <;> omega

/-- The slot test leaves room for what it grants (R56). -/
theorem State.drawn_of_slotTest {k : Nat} (room : s.slotTest h k = true)
    (slots : r.slots ≤ (s.host h).slots + k) (law : s.drawn ≤ 512) : (s.setHost h r).drawn ≤ 512 := by
  have change := s.drawn_setHost h r
  unfold State.slotTest State.commonFree commonSlots draw reserveSlots at room
  unfold draw reserveSlots at change
  rw [Bool.or_eq_true, decide_eq_true_eq, decide_eq_true_eq] at room
  omega

/-- A request takes no slots, or as many as the slot test lets it (R56). -/
theorem HostMove.slots (law : (s.host h).Stored) (move : HostMove s h r) :
    r.slots ≤ (s.host h).slots ∨
      ∃ k, s.slotTest h k = true ∧ r.slots ≤ (s.host h).slots + k := by
  cases move with
  | edit b cues gate fields short room =>
    have counted : ((s.host h).book b).cues.length ≤ (s.host h).slots := by
      have := law.counted
      cases b <;> omega
    have counted : (s.book h b).cues.length ≤ (s.host h).slots := counted
    rw [HostRecord.setSlots_slots]
    rcases room with less | room
    · exact .inl (by omega)
    · exact .inr ⟨_, room, by omega⟩
  | openLoad b n positive gate short noLoad room => exact .inr ⟨n, room, le_rfl⟩
  | rollBack ld load => exact .inl (Nat.sub_le _ _)
  | feed => exact .inl (HostRecord.setBook_slots _ _ _).le
  | complete => exact .inl (HostRecord.setBook_slots _ _ _).le
  | swap => exact .inl (HostRecord.setBook_slots _ _ _).le
  | cancelSwap => exact .inl (HostRecord.setBook_slots _ _ _).le
  | halt => exact .inl le_rfl
  | setSingle => exact .inl le_rfl
  | setAlternate => exact .inl le_rfl

theorem booksKept_host (law : booksKept s) (move : HostMove s h r) : booksKept (s.setHost h r) := by
  rw [booksKept_iff] at law ⊢
  obtain ⟨hosts, drawn, jobs⟩ := law
  refine ⟨fun g => ?_, ?_, jobsKept_of_same (s := s) (t := s.setHost h r) rfl (fun g => ?_) jobs⟩
  · rw [State.host_setHost]
    split
    · exact move.lawful (hosts h)
    · exact hosts g
  · rcases move.slots (hosts h).stored with less | ⟨k, room, slots⟩
    · have change := s.drawn_setHost h r
      simp only [draw] at change
      omega
    · exact State.drawn_of_slotTest room slots drawn
  · rw [State.host_setHost]
    split
    · rename_i same
      rw [same]
      exact move.sameCompiling (hosts h).stored (hosts h).running
    · exact HostRecord.sameCompiling_refl _

/-- A book put in the compile queue (R76, R78). -/
theorem booksKept_compile (law : booksKept s) (gate : (s.host h).gate b = none)
    (noJob : ∀ j ∈ s.jobs, j.host ≠ h) :
    booksKept ((s.setBook h b { (s.book h b).edited with state := .compiling }).setJobs
      (s.jobs ++ [⟨h, b⟩])) := by
  obtain ⟨hosts, -, jobs⟩ := booksKept_iff.1 law
  have idle : (s.book h b).state = .draft ∨ (s.book h b).state = .ready := HostRecord.idle_of_gate gate
  refine booksKept_setBook law rfl (fun ld load same => ?_) (runListOk_of_not_compiled rfl rfl)
    (by rcases idle with state | state <;> simp [state]) (by simp) ?_ fun g c => ?_
  · exact absurd same ((hosts h).stored.target_ne gate load)
  · rw [List.map_append, List.nodup_append]
    refine ⟨jobs.1, List.nodup_singleton _, fun g mem k last => ?_⟩
    obtain ⟨j, queued, rfl⟩ := List.mem_map.1 mem
    have last : k = h := by simpa using last
    rw [last]
    exact noJob j queued
  · rw [List.mem_append, job_mem_iff_compiling jobs]
    by_cases same : g = h ∧ c = b
    · obtain ⟨rfl, rfl⟩ := same
      simp
    · simp [same]

theorem booksKept_abort (law : booksKept s) {j : Job} (own : j.host = h) (job : j ∈ s.jobs) :
    booksKept ((s.setBook h j.book (s.book h j.book).edited).dropJob h) := by
  subst own
  obtain ⟨-, -, jobs⟩ := booksKept_iff.1 law
  refine booksKept_jobEnded law job rfl (runListOk_of_not_compiled rfl rfl) (.inl rfl)
    (nodup_hosts_filter jobs.1 _) fun k => ?_
  rw [List.mem_filter]
  refine and_congr_right fun queued => ?_
  rw [bne_iff_ne, ne_eq, not_iff_not]
  exact ⟨fun same => job_unique jobs queued job same, congrArg Job.host⟩

theorem booksKept_ownerEffect (law : booksKept s) (effect : OwnerEffect h s t) : booksKept t := by
  cases effect with
  | unchanged => exact law
  | granted => exact booksKept_congr (by simp [State.grant_eq]) (by simp [State.grant_eq]) law
  | lane => exact booksKept_congr (by simp) (by simp) law
  | host r move => exact booksKept_host law move
  | compile b gate noJob => exact booksKept_compile law gate noJob
  | abort j own job => exact booksKept_abort law own job
  | propose => exact booksKept_congr (by simp) (by simp) law
  | proposeAgreed => exact booksKept_agree law _
  | vote => exact booksKept_congr (s := s) rfl rfl law
  | voteAgreed => exact booksKept_agree law _
  | ended p o record => exact booksKept_congr (by simp) (State.endProposal_jobs s p o) law

/-! ### Completions, ticks and resets -/

/-- A completion (R81, R86, R87). -/
theorem booksKept_completeJob {j : Job} {js : List Job} (law : booksKept s) (queue : s.jobs = j :: js) :
    booksKept (s.completeJob j) := by
  obtain ⟨-, -, jobs⟩ := booksKept_iff.1 law
  have job : j ∈ s.jobs := by simp [queue]
  have nodup : ((j :: js).map (·.host)).Nodup := by
    rw [← queue]
    exact jobs.1
  obtain ⟨front, nodup⟩ := List.nodup_cons.1 nodup
  have ended : booksKept ((s.setBook j.host j.book ((s.book j.host j.book).completed
      (s.compileReport j.host (s.book j.host j.book).cues))).setJobs s.jobs.tail) := by
    rw [Book.completed_eq]
    refine booksKept_jobEnded law job rfl ?_ ?_ ?_ fun k => ?_
    · simp only [runListOk]
      split <;> simp [BookState.compiled]
    · dsimp only
      split
      · exact .inr rfl
      · exact .inl rfl
    · rw [queue]
      exact nodup
    · have away (mem : k ∈ js) : k ≠ j := by
        rintro rfl
        exact front (List.mem_map_of_mem mem)
      rw [queue, List.tail_cons, List.mem_cons]
      constructor
      · exact fun mem => ⟨.inr mem, away mem⟩
      · rintro ⟨same | mem, other⟩
        · exact absurd same other
        · exact mem
  exact booksKept_congr (by simp [State.completeJob]) (by simp [State.completeJob]) ended

theorem booksKept_agreementReset (law : booksKept s) (h : HostId) : booksKept (s.agreementReset h) := by
  unfold State.agreementReset
  split
  · exact law
  · split
    · exact booksKept_congr (by simp) (by simp [State.clearProposal_jobs]) law
    · split
      · dsimp only
        split
        · exact booksKept_agree law _
        · exact booksKept_congr (s := s) rfl rfl law
      · exact law

theorem State.lanesReset_jobs (s : State) (h : HostId) : (s.lanesReset h).jobs = s.jobs :=
  State.lanesReset_keeps (P := fun t => t.jobs = s.jobs) (fun _ _ _ same => by simpa using same) s h rfl

theorem HostRecord.lawful_initial : HostRecord.initial.Lawful := by
  have law := (booksKept_iff.1 booksKept_reset).1 0
  rwa [State.host_reset] at law

/-- The books, load, run record and job of a host go with its session (R72, R95, R117). -/
theorem booksKept_hostReset (law : booksKept s) (h : HostId) :
    booksKept ((s.setHost h .initial).dropJob h) := by
  rw [booksKept_iff] at law ⊢
  obtain ⟨hosts, drawn, jobs⟩ := law
  have host (g : HostId) : ((s.setHost h .initial).dropJob h).host g =
      if g = h then .initial else s.host g := s.host_setHost h g _
  refine ⟨fun g => ?_, (State.drawn_mono fun g => ?_).trans drawn, nodup_hosts_filter jobs.1 _,
    fun g c _ => ?_⟩
  · rw [host]
    split
    · exact HostRecord.lawful_initial
    · exact hosts g
  · rw [host]
    split
    · exact Nat.zero_le _
    · exact le_rfl
  · refine List.mem_filter.trans ?_
    change (⟨g, c⟩ : Job) ∈ s.jobs ∧ _ ↔
      ((((s.setHost h .initial).dropJob h).host g).book c).state = .compiling
    rw [job_mem_iff_compiling jobs, host]
    by_cases same : g = h
    · cases c <;> simp [same, HostRecord.initial, HostRecord.book, Book.empty]
    · simp [same, State.book]

theorem booksKept_resetBlocks (law : booksKept s) (h : HostId) (first : Bool) :
    booksKept (s.resetBlocks h first) := by
  have plain := booksKept_hostReset law h
  unfold State.resetBlocks
  dsimp only
  split
  · exact booksKept_congr (State.lanesReset_hosts _ _) (State.lanesReset_jobs _ _)
      (booksKept_agreementReset plain h)
  · exact booksKept_agreementReset
      (booksKept_congr (State.lanesReset_hosts _ _) (State.lanesReset_jobs _ _) plain) h

theorem books_blockLaw : BlockLaw booksKept where
  congr same law := booksKept_congr same.2.2.1 same.2.2.2.1 law
  effect law effect := booksKept_ownerEffect law effect
  arrival i law _ := booksKept_congr (State.arrive_hosts _ i) (State.arrive_jobs _ i) law
  boundary b law _ :=
    booksKept_congr (State.arrive_hosts _ _) (State.arrive_jobs _ _)
      (booksKept_crossBoundary
        (booksKept_congr (State.enterFrame_hosts _) (by simp [State.enterFrame, State.frameEnd, State.mapLanes]) law) b)
  completion law queue := booksKept_completeJob law queue
  sessionReset h first law := booksKept_resetBlocks law h first
  powerOn := booksKept_reset

/-- Settles O59: each request, boundary step, completion and reset keeps the counts of slots, the load,
the run record and the queue in step with the books. -/
theorem stepKeepsBooks : Obligations.StepKeepsBooks := fun _ _ law run => books_blockLaw.step law run

end Sys2Proof.Machine
end

section
/-!
PROOFS. READY and PENDING books fit the lengths in force and agreed: every event of the part keeps R155's
law.
-/

namespace Sys2Proof.Machine

open Sys2Proof.Safety

variable {s t : State} {h g : HostId} {r : HostRecord} {b c : BookId}

/-! ### Demotions, by host and by book -/

/-- The record with book `b` demoted where a test singles it out. -/
def HostRecord.demoteIf (r : HostRecord) (test : Book → Bool) (b : BookId) : HostRecord :=
  if test (r.book b) then r.demote b else r

/-- The record with each of its books demoted that a test singles out, book A first (R154). -/
def HostRecord.demoteBoth (r : HostRecord) (test : BookId → Book → Bool) : HostRecord :=
  (r.demoteIf (test .A) .A).demoteIf (test .B) .B

theorem HostRecord.book_demote (r : HostRecord) (b c : BookId) :
    (r.demote b).book c = if c = b then (r.book b).demoted else r.book c :=
  r.book_setBook b c _

theorem HostRecord.book_demoteIf (r : HostRecord) (test : Book → Bool) (b c : BookId) :
    (r.demoteIf test b).book c =
      if c = b ∧ test (r.book b) then (r.book b).demoted else r.book c := by
  unfold HostRecord.demoteIf
  by_cases chosen : test (r.book b) = true
  · simp [chosen, HostRecord.book_demote]
  · simp [chosen]

theorem HostRecord.book_demoteBoth (r : HostRecord) (test : BookId → Book → Bool) (c : BookId) :
    (r.demoteBoth test).book c =
      if test c (r.book c) then (r.book c).demoted else r.book c := by
  unfold HostRecord.demoteBoth
  rw [HostRecord.book_demoteIf, HostRecord.book_demoteIf, HostRecord.book_demoteIf]
  cases c <;> simp

/-- The test and demotion of the books of one host. -/
def State.demoteOf (p : HostId → BookId → Book → Bool) (s : State) (h : HostId) : State :=
  allBooks.foldl (fun t b => if p h b (t.book h b) then t.demote h b else t) s

theorem State.host_demoteIf (s : State) (test : Book → Bool) (h g : HostId) (b : BookId) :
    (if test (s.book h b) then s.demote h b else s).host g =
      if g = h then (s.host h).demoteIf test b else s.host g := by
  unfold HostRecord.demoteIf
  change (if test ((s.host h).book b) then _ else _ : State).host g = _
  split
  · rw [State.host_demote_eq]
  · split
    · rename_i same
      rw [same]
    · rfl

theorem State.host_demoteOf (s : State) (p : HostId → BookId → Book → Bool) (h g : HostId) :
    (s.demoteOf p h).host g = if g = h then (s.host h).demoteBoth (p h) else s.host g := by
  simp only [State.demoteOf, allBooks, List.foldl_cons, List.foldl_nil]
  rw [State.host_demoteIf, State.host_demoteIf, State.host_demoteIf, if_pos rfl]
  split <;> rfl

theorem State.foldl_demoteOf (p : HostId → BookId → Book → Bool) (s : State) {hs : List HostId}
    (nodup : hs.Nodup) (g : HostId) :
    (hs.foldl (State.demoteOf p) s).host g =
      if g ∈ hs then (s.host g).demoteBoth (p g) else s.host g := by
  induction hs generalizing s with
  | nil => simp
  | cons h hs ih =>
    obtain ⟨new, nodup⟩ := List.nodup_cons.1 nodup
    rw [List.foldl_cons, ih _ nodup, State.host_demoteOf]
    by_cases same : g = h
    · subst same
      simp [new]
    · simp [same]

theorem State.demoteWhere_eq (s : State) (p : HostId → BookId → Book → Bool) :
    s.demoteWhere p = allHosts.foldl (State.demoteOf p) s := by
  simp only [State.demoteWhere, everyBook, List.foldl_flatMap, List.foldl_map]
  rfl

theorem State.host_demoteWhere (s : State) (p : HostId → BookId → Book → Bool) (g : HostId) :
    (s.demoteWhere p).host g = (s.host g).demoteBoth (p g) := by
  rw [State.demoteWhere_eq, State.foldl_demoteOf p s nodup_allHosts, if_pos (mem_allHosts g)]

theorem State.book_demoteWhere (s : State) (p : HostId → BookId → Book → Bool) (g : HostId)
    (c : BookId) :
    (s.demoteWhere p).book g c =
      if p g c (s.book g c) then (s.book g c).demoted else s.book g c := by
  rw [State.book, State.host_demoteWhere, HostRecord.book_demoteBoth]
  rfl

/-! ### Books that fit -/

/-- The book is READY or PENDING (R98). -/
def BookState.idle (st : BookState) : Prop := st = .ready ∨ st = .pending

/-- A READY or PENDING book fits each of the lengths (R155). -/
def Book.FitsIdle (x : Book) (fs : List Nat) : Prop :=
  x.state.idle → ∀ f ∈ fs, x.fits f = true

theorem fitsKept_iff : fitsKept s ↔ ∀ h b, (s.book h b).FitsIdle s.lengthsRequired :=
  ⟨fun law h b => law h b (mem_allBooks b), fun law h b _ => law h b⟩

theorem Book.fits_of_subset {x y : Book} (less : y.cues ⊆ x.cues) {f : Nat} (fits : x.fits f = true) :
    y.fits f = true := by
  rw [Book.fits, List.all_eq_true] at fits ⊢
  exact fun c mem => fits c (less mem)

theorem Book.fitsIdle_of_not_idle {x : Book} (not : ¬ x.state.idle) (fs : List Nat) : x.FitsIdle fs :=
  fun idle => absurd idle not

theorem Book.fitsIdle_draft {x : Book} (draft : x.state = .draft) (fs : List Nat) : x.FitsIdle fs :=
  Book.fitsIdle_of_not_idle (by simp [BookState.idle, draft]) fs

theorem Book.FitsIdle.shrink {x y : Book} {fs gs : List Nat} (law : x.FitsIdle fs)
    (less : y.cues ⊆ x.cues) (idle : y.state.idle → x.state.idle) (fewer : gs ⊆ fs) :
    y.FitsIdle gs :=
  fun now f mem => Book.fits_of_subset less (law (idle now) f (fewer mem))

theorem Book.FitsIdle.fewer {x : Book} {fs gs : List Nat} (law : x.FitsIdle fs) (fewer : gs ⊆ fs) :
    x.FitsIdle gs := law.shrink (List.Subset.refl _) id fewer

theorem fitsKept_of_books (lengths : t.lengthsRequired ⊆ s.lengthsRequired)
    (books : ∀ h b, (s.book h b).FitsIdle s.lengthsRequired → (t.book h b).FitsIdle s.lengthsRequired)
    (law : fitsKept s) : fitsKept t := by
  rw [fitsKept_iff] at law ⊢
  exact fun h b => (books h b (law h b)).fewer lengths

theorem fitsKept_of_hosts (lengths : t.lengthsRequired ⊆ s.lengthsRequired) (hosts : t.hosts = s.hosts)
    (law : fitsKept s) : fitsKept t := by
  refine fitsKept_of_books lengths (fun h b law => ?_) law
  rwa [State.book_congr hosts]

/-! ### The lengths required -/

theorem State.lengthsRequired_congr (length : t.timebase.f = s.timebase.f)
    (proposal : t.proposal = s.proposal) : t.lengthsRequired = s.lengthsRequired := by
  unfold State.lengthsRequired
  rw [length, proposal]

theorem State.lengthsRequired_subset (length : t.timebase.f = s.timebase.f)
    (proposal : t.proposal = s.proposal) : t.lengthsRequired ⊆ s.lengthsRequired := by
  rw [State.lengthsRequired_congr length proposal]
  exact List.Subset.refl _

theorem State.lengthsRequired_of_none (proposal : s.proposal = none) :
    s.lengthsRequired = [s.timebase.f] := by
  simp [State.lengthsRequired, proposal]

theorem State.lengthsRequired_of_some {p : Proposal} (proposal : s.proposal = some p) :
    s.lengthsRequired = s.timebase.f :: if p.state = .agreed then [p.newF] else [] := by
  simp [State.lengthsRequired, proposal]

theorem State.f_mem_lengthsRequired (s : State) : s.timebase.f ∈ s.lengthsRequired :=
  List.mem_cons_self

theorem State.lengthsRequired_subset_checked (s : State) : s.lengthsRequired ⊆ s.lengthsChecked := by
  unfold State.lengthsChecked
  cases proposal : s.proposal with
  | none => rw [State.lengthsRequired_of_none proposal]; simp
  | some p =>
    rw [State.lengthsRequired_of_some proposal]
    split <;> simp

theorem State.clearProposal_f (s : State) : s.clearProposal.timebase.f = s.timebase.f := by
  unfold State.clearProposal
  split
  · dsimp only
    split <;> rfl
  · rfl

theorem State.clearProposal_proposal (s : State) : s.clearProposal.proposal = none := by
  unfold State.clearProposal
  split
  · dsimp only
    split <;> rfl
  · assumption

theorem State.lengthsRequired_clearProposal (s : State) :
    s.clearProposal.lengthsRequired = [s.timebase.f] := by
  rw [State.lengthsRequired_of_none s.clearProposal_proposal, State.clearProposal_f]

theorem State.lengthsRequired_clearProposal_subset (s : State) :
    s.clearProposal.lengthsRequired ⊆ s.lengthsRequired := by
  rw [State.lengthsRequired_clearProposal]
  simpa using s.f_mem_lengthsRequired

theorem State.lengthsRequired_postAll (s : State) (ps : Posts) :
    (s.postAll ps).lengthsRequired = s.lengthsRequired :=
  State.lengthsRequired_congr (by simp) (by simp)

/-! ### The change to AGREED -/

theorem Book.fitsIdle_of_not_misfit {x : Book} {f : Nat} (fits : x.idleMisfit f = false) :
    x.FitsIdle [f] := by
  intro idle g mem
  rw [List.mem_singleton.1 mem]
  rcases idle with state | state <;> simpa [Book.idleMisfit, state] using fits

theorem State.agree_lengthsRequired (s : State) (p : Proposal) :
    (s.agree p).lengthsRequired = [s.timebase.f, p.newF] := by
  have record : (s.agree p).proposal = some { p with state := .agreed } := by
    simp [State.agree, State.recordAgreed]
  rw [State.lengthsRequired_of_some record]
  simp [State.agree, State.recordAgreed]

/-- The change to AGREED demotes the books that do not fit the agreed length (R154). -/
theorem fitsKept_agree (law : fitsKept s) (p : Proposal) : fitsKept (s.agree p) := by
  rw [fitsKept_iff] at law ⊢
  intro h b
  rw [State.agree_lengthsRequired, State.agree, State.book_demoteWhere]
  split
  · exact Book.fitsIdle_draft rfl _
  · rename_i fits
    have now := Book.fitsIdle_of_not_misfit (Bool.eq_false_iff.2 fits)
    intro idle f mem
    rcases List.mem_cons.1 mem with rfl | new
    · exact law h b idle _ s.f_mem_lengthsRequired
    · exact now idle f new

/-! ### Requests -/

theorem HostMove.fitsIdle {fs : List Nat} (stored : (s.host h).Stored)
    (running : Running (s.host h).run (s.host h).states) (move : HostMove s h r)
    (law : ∀ b, ((s.host h).book b).FitsIdle fs) (c : BookId) : (r.book c).FitsIdle fs := by
  have written {x : Book} (b : BookId) (ok : x.FitsIdle fs) : (((s.host h).setBook b x).book c).FitsIdle fs := by
    rw [HostRecord.book_setBook]
    split
    · exact ok
    · exact law c
  have target {ld : Load} (load : (s.host h).load = some ld) (cues : List Cue) :
      Book.FitsIdle { (s.host h).book ld.book with cues := cues } fs := by
    obtain ⟨-, -, -, draft, -⟩ := stored.target load
    exact Book.fitsIdle_draft (x := { (s.host h).book ld.book with cues := cues }) draft fs
  cases move with
  | edit b cues => exact written b (Book.fitsIdle_draft rfl fs)
  | openLoad b => exact written b (Book.fitsIdle_draft rfl fs)
  | feed ld cues load => exact written ld.book (target load _)
  | complete ld cues load => exact written ld.book (target load _)
  | rollBack ld load => exact written ld.book (target load _)
  | swap b single ready =>
    exact written b ((law b).shrink (List.Subset.refl _) (fun _ => .inl ready) (List.Subset.refl _))
  | cancelSwap b action =>
    have pending := (running.pending b).1 action
    exact written b ((law b).shrink (List.Subset.refl _) (fun _ => .inr pending) (List.Subset.refl _))
  | halt => exact law c
  | setSingle => exact law c
  | setAlternate => exact law c

theorem fitsKept_setBook {x : Book} (law : fitsKept s) (ok : x.FitsIdle s.lengthsRequired)
    (lengths : t.lengthsRequired = s.lengthsRequired) (hosts : t.hosts = (s.setBook h b x).hosts) :
    fitsKept t := by
  refine fitsKept_of_books (s := s) (by rw [lengths]; exact List.Subset.refl _) (fun g c law => ?_) law
  rw [State.book_congr hosts, State.book_setBook]
  split
  · exact ok
  · exact law

theorem fitsKept_ownerEffect (books : booksKept s) (law : fitsKept s) (effect : OwnerEffect h s t) :
    fitsKept t := by
  cases effect with
  | unchanged => exact law
  | granted =>
    exact fitsKept_of_hosts
      (State.lengthsRequired_subset (by simp [State.grant_eq]) (by simp [State.grant_eq])) (by simp [State.grant_eq]) law
  | lane => exact fitsKept_of_hosts (State.lengthsRequired_subset (by simp) (by simp)) (by simp) law
  | host r move =>
    have own := (booksKept_iff.1 books).1 h
    refine fitsKept_of_books (s := s) (State.lengthsRequired_subset rfl rfl) (fun g c _ => ?_) law
    rw [State.book, State.host_setHost]
    split
    · exact move.fitsIdle own.stored own.running (fun b => fitsKept_iff.1 law h b) c
    · exact fitsKept_iff.1 law g c
  | compile b gate noJob =>
    exact fitsKept_setBook (h := h) (b := b) law
      (Book.fitsIdle_of_not_idle (by simp [BookState.idle]) _) rfl rfl
  | abort j own job =>
    exact fitsKept_setBook (h := h) (b := j.book) (x := (s.book h j.book).edited) law
      (Book.fitsIdle_draft rfl _) rfl rfl
  | propose f w noRecord =>
    refine fitsKept_of_hosts ?_ (by simp) law
    rw [State.lengthsRequired_postAll, State.lengthsRequired_of_none noRecord]
    exact List.Subset.refl _
  | proposeAgreed => exact fitsKept_agree law _
  | vote p record =>
    refine fitsKept_of_hosts (s := s) ?_ rfl law
    rw [State.lengthsRequired_of_some record]
    exact List.Subset.refl _
  | voteAgreed => exact fitsKept_agree law _
  | ended p o record =>
    refine fitsKept_of_hosts ?_ (by simp) law
    rw [State.endProposal, State.lengthsRequired_postAll]
    exact s.lengthsRequired_clearProposal_subset

/-! ### Completions and resets -/

theorem State.fits_of_cueFailure_none {c : Cue} (pass : s.cueFailure h c = none) {f : Nat}
    (mem : f ∈ s.lengthsChecked) : c.fits f = true := by
  cases lane : c.lane? with
  | none =>
    rcases c with ⟨action, offset, every, phase, tag⟩
    cases action <;> simp_all [Cue.lane?, Cue.fits]
  | some l =>
    simp only [State.cueFailure, lane] at pass
    split at pass
    · cases pass
    · split at pass
      · cases pass
      · rename_i fits
        simp only [Bool.not_eq_true', Bool.not_eq_false, List.all_eq_true] at fits
        exact fits f mem

theorem State.cueFailure_of_ownershipAndFit {cues : List Cue} {i : Nat}
    (pass : s.ownershipAndFit h i cues = none) : ∀ d ∈ cues, s.cueFailure h d = none := by
  induction cues generalizing i with
  | nil => simp
  | cons c cs ih =>
    simp only [State.ownershipAndFit] at pass
    split at pass
    · cases pass
    · rename_i none
      intro d mem
      rcases List.mem_cons.1 mem with rfl | mem
      · exact none
      · exact ih pass d mem

theorem State.cueFailure_ne_ready (s : State) (h : HostId) (c : Cue) :
    s.cueFailure h c ≠ some .ready := by
  unfold State.cueFailure
  split
  · nofun
  · split
    · nofun
    · split <;> nofun

theorem State.ownershipAndFit_ne_ready (s : State) (h : HostId) (i : Nat) (cues : List Cue)
    (k : Nat) : s.ownershipAndFit h i cues ≠ some (k, .ready) := by
  induction cues generalizing i with
  | nil => nofun
  | cons c cs ih =>
    simp only [State.ownershipAndFit]
    split
    · rename_i o fails
      rintro ⟨⟩
      exact s.cueFailure_ne_ready h c fails
    · exact ih _

theorem State.ownershipAndFit_of_ready {cues : List Cue}
    (ready : (s.compileReport h cues).outcome = .ready) : s.ownershipAndFit h 0 cues = none := by
  cases fails : s.ownershipAndFit h 0 cues with
  | none => rfl
  | some x =>
    obtain ⟨i, o⟩ := x
    simp only [State.compileReport, fails] at ready
    have is : o = .ready := ready
    rw [is] at fails
    exact absurd fails (s.ownershipAndFit_ne_ready h 0 cues i)

/-- A book passes its completion only where it fits every length checked (R82, R86). -/
theorem fitsKept_completeJob (law : fitsKept s) (j : Job) : fitsKept (s.completeJob j) := by
  refine fitsKept_setBook (h := j.host) (b := j.book) law
    (x := (s.book j.host j.book).completed (s.compileReport j.host (s.book j.host j.book).cues))
    (fun idle f mem => ?_) (State.lengthsRequired_congr (by rw [State.completeJob_timebase])
      (by simp [State.completeJob, State.setBook])) (by simp [State.completeJob])
  have ready : (s.compileReport j.host (s.book j.host j.book).cues).outcome = .ready := by
    by_contra failed
    simp [Book.completed, failed, BookState.idle] at idle
  have pass := State.cueFailure_of_ownershipAndFit (State.ownershipAndFit_of_ready ready)
  rw [Book.completed_eq, Book.fits, List.all_eq_true]
  exact fun c here => State.fits_of_cueFailure_none (pass c here) (s.lengthsRequired_subset_checked mem)

theorem fitsKept_agreementReset (law : fitsKept s) (h : HostId) : fitsKept (s.agreementReset h) := by
  unfold State.agreementReset
  split
  · exact law
  · rename_i p record
    split
    · refine fitsKept_of_hosts ?_ (by simp) law
      rw [State.lengthsRequired_postAll]
      exact s.lengthsRequired_clearProposal_subset
    · split
      · dsimp only
        split
        · exact fitsKept_agree law _
        · refine fitsKept_of_hosts (s := s) ?_ rfl law
          rw [State.lengthsRequired_of_some record]
          exact List.Subset.refl _
      · exact law

theorem State.lanesReset_proposal (s : State) (h : HostId) :
    (s.lanesReset h).proposal = s.proposal :=
  State.lanesReset_keeps (P := fun t => t.proposal = s.proposal) (fun _ _ _ same => by simpa using same)
    s h rfl

theorem fitsKept_lanesReset (law : fitsKept s) (h : HostId) : fitsKept (s.lanesReset h) :=
  fitsKept_of_hosts
    (State.lengthsRequired_subset (by rw [State.lanesReset_timebase]) (s.lanesReset_proposal h))
    (State.lanesReset_hosts _ _) law

theorem fitsKept_resetBlocks (law : fitsKept s) (h : HostId) (first : Bool) :
    fitsKept (s.resetBlocks h first) := by
  have plain : fitsKept ((s.setHost h .initial).dropJob h) := by
    refine fitsKept_of_books (s := s) (List.Subset.refl _) (fun g b kept => ?_) law
    change (((s.setHost h .initial).host g).book b).FitsIdle _
    rw [State.host_setHost]
    split
    · exact Book.fitsIdle_draft (by cases b <;> rfl) _
    · exact kept
  unfold State.resetBlocks
  dsimp only
  split
  · exact fitsKept_lanesReset (fitsKept_agreementReset plain h) h
  · exact fitsKept_agreementReset (fitsKept_lanesReset plain h) h

/-! ### A boundary -/

theorem HostRecord.book_move (r : HostRecord) (b c : BookId) (st : BookState) :
    (r.move b st).book c = if c = b then (r.book b).inState st else r.book c := r.book_setBook b c _

theorem HostRecord.leave_book (r : HostRecord) (c : BookId) :
    r.leave.book c = if r.run.active = some c then (r.book c).inState .ready else r.book c := by
  unfold HostRecord.leave
  cases active : r.run.active with
  | none => simp
  | some a =>
    simp only [HostRecord.book_move, Option.some.injEq]
    by_cases same : c = a
    · subst same
      simp
    · simp [same, Ne.symm same]

/-- Run control's reaction leaves a book as it is, makes it ACTIVE, or takes it out of ACTIVE (R98). -/
theorem HostRecord.runBoundary_book (r : HostRecord) (c : BookId) :
    r.runBoundary.book c = r.book c ∨ (r.runBoundary.book c).state = .active ∨
      (r.leaver = some c ∧ (r.runBoundary.book c).state = .ready) := by
  have leaver (run : r.runBoundary.run.active ≠ r.run.active) (was : r.run.active = some c) :
      r.leaver = some c := by
    rw [was] at run
    simp [HostRecord.leaver, was, run]
  revert leaver
  unfold HostRecord.runBoundary
  split
  · rename_i b mode action
    intro leaver
    have book : (r.carrySwap b).book c =
        if c = b then (r.leave.book b).inState .active else r.leave.book c := r.leave.book_move b c _
    rw [book, HostRecord.leave_book r c]
    by_cases same : c = b
    · simp [same, Book.inState]
    · by_cases was : r.run.active = some c
      · refine .inr (.inr ⟨leaver ?_ was, by simp [same, was, Book.inState]⟩)
        rw [was]
        exact fun h => same (Option.some.inj h).symm
      · simp [same, was]
  · rename_i a mode action active
    intro leaver
    have book : (r.carryHalt a).book c = if c = a then (r.book a).inState .ready else r.book c :=
      r.book_move a c _
    rw [book]
    by_cases same : c = a
    · subst same
      refine .inr (.inr ⟨leaver ?_ active, by simp [Book.inState]⟩)
      rw [active]
      nofun
    · simp [same]
  · rename_i a mode active
    split
    · unfold HostRecord.takeTurn
      split
      · intro leaver
        have book : (((r.move a .ready).move a.other .active).setRun
            { r.run with active := some a.other, turn := r.run.runOf a.other }).book c =
            if c = a.other then ((r.move a .ready).book a.other).inState .active
            else (r.move a .ready).book c := (r.move a .ready).book_move _ c _
        rw [book, HostRecord.book_move _ a c]
        by_cases same : c = a.other
        · simp [same, Book.inState]
        · by_cases was : c = a
          · subst was
            refine .inr (.inr ⟨leaver ?_ active, by simp [same, Book.inState]⟩)
            rw [active]
            exact fun h => same (Option.some.inj h).symm
          · simp [same, was]
      · exact fun _ => .inl rfl
    · exact fun _ => .inl rfl
  · exact fun _ => .inl rfl

theorem HostRecord.loadBoundary_fitsIdle {fs : List Nat} (law : (r.book c).FitsIdle fs) :
    (r.loadBoundary.book c).FitsIdle fs ∧ (r.loadBoundary.book c).state = (r.book c).state := by
  unfold HostRecord.loadBoundary
  split
  · exact ⟨law, rfl⟩
  · rename_i ld load
    split
    · exact ⟨law, rfl⟩
    · have book : (r.rollBack ld).book c = if c = ld.book then
          { r.book ld.book with cues := (r.book ld.book).cues.take ld.lengthAtOpen } else r.book c :=
        r.book_setBook ld.book c _
      rw [book]
      split
      · rename_i same
        subst same
        exact ⟨law.shrink (List.take_subset _ _) id (List.Subset.refl _), rfl⟩
      · exact ⟨law, rfl⟩

theorem Crossing.react_other_lengths (x : Crossing) {q : BoundaryReaction} (other : q ≠ .agreement) :
    (x.react q).state.lengthsRequired = x.state.lengthsRequired := by
  have same := x.react_sameAgreement other
  exact State.lengthsRequired_congr (by rw [same.timebase]) same.proposal

/-- Before the agreement unit's reaction: a book that fits no longer has left ACTIVE (R155). -/
structure FitsBefore (f : Nat) (x : Crossing) : Prop where
  waits : x.agreementDone = false
  books : ∀ h b, (x.state.book h b).FitsIdle [f] ∨
    ((h, b) ∈ x.left ∧ (x.state.book h b).state = .ready)

/-- After it: a book that leaves ACTIVE must fit the lengths `required`, and every READY or PENDING book
fits `fs`. -/
structure FitsAfter (required fs : List Nat) (x : Crossing) : Prop where
  done : x.agreementDone = true
  lengths : x.state.lengthsRequired = required
  books : ∀ h b, (x.state.book h b).FitsIdle fs

theorem State.book_runBoundary (s : State) (h g : HostId) (c : BookId) :
    (s.runBoundary h).book g c = if g = h then (s.host h).runBoundary.book c else s.book g c := by
  rw [State.book, State.host_runBoundary]
  split <;> rfl

theorem State.book_loadBoundary (s : State) (h g : HostId) (c : BookId) :
    (s.loadBoundary h).book g c = if g = h then (s.host h).loadBoundary.book c else s.book g c := by
  rw [State.book, State.host_loadBoundary]
  split <;> rfl

theorem FitsBefore.run {f : Nat} {x : Crossing} (law : FitsBefore f x) (h : HostId) :
    FitsBefore f (x.run h) := by
  obtain ⟨waits, books⟩ := law
  have stays (left : List (HostId × BookId)) (more : x.left ⊆ left)
      (leaver : ∀ a, (x.state.host h).leaver = some a → (h, a) ∈ left) (g : HostId) (c : BookId) :
      ((x.state.runBoundary h).book g c).FitsIdle [f] ∨
        ((g, c) ∈ left ∧ ((x.state.runBoundary h).book g c).state = .ready) := by
    rw [State.book_runBoundary]
    have old := (books g c).imp_right fun was => And.intro (more was.1) was.2
    split
    · rename_i same
      subst same
      rcases (x.state.host g).runBoundary_book c with same | active | ⟨leaves, ready⟩
      · rw [same]
        exact old
      · exact .inl (Book.fitsIdle_of_not_idle (by simp [BookState.idle, active]) _)
      · exact .inr ⟨leaver c leaves, ready⟩
    · exact old
  simp only [Crossing.run, State.leavesActive_eq, waits]
  cases leaves : (x.state.host h).leaver with
  | none => exact ⟨rfl, stays x.left (List.Subset.refl _) (by simp [leaves])⟩
  | some a => exact ⟨rfl, stays (x.left ++ [(h, a)]) (by simp) (by simp [leaves])⟩

theorem FitsBefore.react {f : Nat} {x : Crossing} (law : FitsBefore f x) {q : BoundaryReaction}
    (other : q ≠ .agreement) : FitsBefore f (x.react q) := by
  cases q with
  | lane l => exact ⟨law.waits, by simpa [Crossing.react, State.book, State.host] using law.books⟩
  | check l => exact ⟨law.waits, by simpa [Crossing.react, State.book, State.host] using law.books⟩
  | load h =>
    refine ⟨law.waits, fun g c => ?_⟩
    change ((x.state.loadBoundary h).book g c).FitsIdle [f] ∨
      ((g, c) ∈ x.left ∧ ((x.state.loadBoundary h).book g c).state = .ready)
    rw [State.book_loadBoundary]
    split
    · rename_i same
      subst same
      rcases law.books g c with fits | ⟨left, ready⟩
      · exact .inl (HostRecord.loadBoundary_fitsIdle fits).1
      · refine .inr ⟨left, ?_⟩
        rw [(HostRecord.loadBoundary_fitsIdle (fs := []) (fun _ _ => nofun)).2]
        exact ready
    · exact law.books g c
  | run h => exact law.run h
  | agreement => exact absurd rfl other

/-- What the agreement unit's own step leaves to be fitted: F, and a length agreed at this boundary. -/
theorem State.lengthsRequired_proposalBoundary (s : State) :
    s.proposalBoundary.1.lengthsRequired ⊆ s.timebase.f :: s.proposalBoundary.2.toList := by
  unfold State.proposalBoundary
  split
  · rename_i none
    rw [State.lengthsRequired_of_none none]
    simp
  · split
    · rw [State.lengthsRequired_postAll, State.lengthsRequired_of_none rfl]
      simp
    · dsimp only
      split
      · simp [State.lengthsRequired, State.recordAgreed]
      · split
        · rw [State.endProposal, State.lengthsRequired_postAll, State.lengthsRequired_clearProposal]
          simp
        · rename_i p record opened _ _
          rw [State.lengthsRequired_of_some rfl]
          simp [State.withoutLaneless, opened]

theorem Crossing.lengths_agreement (x : Crossing) :
    (x.react .agreement).state.lengthsRequired = x.state.proposalBoundary.1.lengthsRequired :=
  State.lengthsRequired_congr (by simp [Crossing.react, State.agreementBoundary])
    (by simp [Crossing.react, State.agreementBoundary])

theorem FitsBefore.agreement {x : Crossing} (law : FitsBefore x.state.timebase.f x) :
    FitsAfter x.state.proposalBoundary.1.lengthsRequired x.state.proposalBoundary.1.lengthsRequired
      (x.react .agreement) := by
  refine ⟨rfl, x.lengths_agreement, fun h b => ?_⟩
  have book : x.state.proposalBoundary.1.book h b = x.state.book h b :=
    State.book_congr (by simp) h b
  change ((x.state.agreementBoundary x.left).book h b).FitsIdle _
  rw [State.agreementBoundary, State.book_demoteWhere, book]
  split_ifs with kept
  · exact Book.fitsIdle_draft rfl _
  · rw [Bool.or_eq_true, not_or] at kept
    obtain ⟨agreed, leaver⟩ := kept
    rcases law.books h b with fits | ⟨left, ready⟩
    · intro idle g mem
      rcases List.mem_cons.1 (State.lengthsRequired_proposalBoundary _ mem) with rfl | new
      · exact fits idle _ (List.mem_singleton_self _)
      · have new : x.state.proposalBoundary.2 = some g := by simpa using new
        rw [new] at agreed
        exact Book.fitsIdle_of_not_misfit (Bool.eq_false_iff.2 agreed) idle g (List.mem_singleton_self g)
    · have all : x.state.proposalBoundary.1.lengthsRequired.all (x.state.book h b).fits = true := by
        simpa [left, State.leaverMisfit, ready] using leaver
      exact fun _ => List.all_eq_true.1 all

theorem State.book_demote (s : State) (h g : HostId) (b c : BookId) :
    (s.demote h b).book g c = if g = h ∧ c = b then (s.book h b).demoted else s.book g c := by
  rw [State.book, State.host_demote_eq]
  by_cases own : g = h
  · subst own
    simp [HostRecord.book_demote, State.book]
  · simp [own, State.book]

section

variable {required fs : List Nat} {x : Crossing}

theorem FitsAfter.run (law : FitsAfter required fs x) (fewer : fs ⊆ required) (h : HostId) :
    FitsAfter required fs (x.run h) := by
  obtain ⟨done, required', books⟩ := law
  have lengths : (x.state.runBoundary h).lengthsRequired = required :=
    (State.lengthsRequired_congr (by simp) (by simp)).trans required'
  have stays (g : HostId) (c : BookId) (other : g = h → (x.state.host h).leaver ≠ some c) :
      ((x.state.runBoundary h).book g c).FitsIdle fs := by
    rw [State.book_runBoundary]
    split
    · rename_i same
      subst same
      rcases (x.state.host g).runBoundary_book c with same | active | ⟨leaves, -⟩
      · rw [same]
        exact books g c
      · exact Book.fitsIdle_of_not_idle (by simp [BookState.idle, active]) _
      · exact absurd leaves (other rfl)
    · exact books g c
  cases leaves : (x.state.host h).leaver with
  | none =>
    have result : x.run h = { x with state := x.state.runBoundary h } := by
      simp [Crossing.run, State.leavesActive_eq, leaves]
    rw [result]
    exact ⟨done, lengths, fun g c => stays g c (by simp [leaves])⟩
  | some a =>
    have away (g : HostId) (c : BookId) (other : ¬(g = h ∧ c = a)) :
        ((x.state.runBoundary h).book g c).FitsIdle fs :=
      stays g c (by simpa [leaves, eq_comm] using fun own book => other ⟨own, book⟩)
    by_cases misfit : (x.state.runBoundary h).leaverMisfit ((x.state.runBoundary h).book h a) = true
    · have result : x.run h = { x with state := (x.state.runBoundary h).demote h a } := by
        simp [Crossing.run, State.leavesActive_eq, leaves, done, misfit]
      rw [result]
      refine ⟨done, (State.lengthsRequired_congr (by simp) (by simp)).trans lengths, fun g c => ?_⟩
      rw [State.book_demote]
      split
      · exact Book.fitsIdle_draft rfl _
      · exact away g c ‹_›
    · have result : x.run h = { x with state := x.state.runBoundary h } := by
        simp [Crossing.run, State.leavesActive_eq, leaves, done, misfit]
      rw [result]
      refine ⟨done, lengths, fun g c => ?_⟩
      by_cases same : g = h ∧ c = a
      · obtain ⟨rfl, rfl⟩ := same
        have book := x.state.book_runBoundary g g c
        rw [if_pos rfl] at book
        rcases (x.state.host g).runBoundary_book c with same | active | ⟨-, ready⟩
        · rw [book, same]
          exact books g c
        · rw [← book] at active
          exact Book.fitsIdle_of_not_idle (by simp [BookState.idle, active]) _
        · rw [← book] at ready
          have all : required.all ((x.state.runBoundary g).book g c).fits = true := by
            simpa only [State.leaverMisfit, ready, lengths, beq_self_eq_true, Bool.true_and,
              Bool.not_eq_true', Bool.not_eq_false] using misfit
          exact fun _ f mem => List.all_eq_true.1 all f (fewer mem)
      · exact away g c same

theorem FitsAfter.react (law : FitsAfter required fs x) (fewer : fs ⊆ required) {q : BoundaryReaction}
    (other : q ≠ .agreement) : FitsAfter required fs (x.react q) := by
  have lengths := (x.react_other_lengths other).trans law.lengths
  have same {q : BoundaryReaction} (lengths : (x.react q).state.lengthsRequired = required)
      (done : (x.react q).agreementDone = x.agreementDone)
      (hosts : (x.react q).state.hosts = x.state.hosts) : FitsAfter required fs (x.react q) :=
    ⟨done.trans law.done, lengths, fun g c => by
      rw [State.book_congr hosts]
      exact law.books g c⟩
  cases q with
  | lane l => exact same lengths rfl (by simp [Crossing.react])
  | check l => exact same lengths rfl (by simp [Crossing.react])
  | load h =>
    refine ⟨law.done, lengths, fun g c => ?_⟩
    change ((x.state.loadBoundary h).book g c).FitsIdle _
    rw [State.book_loadBoundary]
    split
    · rename_i same
      subst same
      exact (HostRecord.loadBoundary_fitsIdle (law.books g c)).1
    · exact law.books g c
  | run h => exact law.run fewer h
  | agreement => exact absurd rfl other

theorem FitsAfter.foldl {qs : List BoundaryReaction} (law : FitsAfter required fs x)
    (fewer : fs ⊆ required) (none : .agreement ∉ qs) :
    FitsAfter required fs (qs.foldl Crossing.react x) :=
  Crossing.foldl_react_keeps (P := FitsAfter required fs)
    (fun _ _ mem law => law.react fewer fun same => none (same ▸ mem)) _ law

end

theorem fitsKept_crossBoundary (s : State) (b : BoundaryIn)
    (law : ∀ h c, (s.book h c).FitsIdle [s.timebase.f]) : fitsKept (s.crossBoundary b) := by
  obtain ⟨before, after, -, none, noneAfter, cross⟩ :=
    s.crossBoundary_split b .agreement agreement_mem_everyBoundaryReaction
  have first := Crossing.foldl_sameAgreement none ⟨s.setRbk b.rbk, false, []⟩
  have fits : FitsBefore s.timebase.f (before.foldl Crossing.react ⟨s.setRbk b.rbk, false, []⟩) :=
    Crossing.foldl_react_keeps (P := FitsBefore s.timebase.f)
      (fun _ _ mem law => law.react fun same => none (same ▸ mem)) _
      ⟨rfl, fun h c => .inl (law h c)⟩
  have length : (before.foldl Crossing.react ⟨s.setRbk b.rbk, false, []⟩).state.timebase.f =
      s.timebase.f := congrArg Timebase.f first.timebase
  rw [← length] at fits
  rw [cross]
  have last := fits.agreement.foldl (List.Subset.refl _) noneAfter
  rw [fitsKept_iff, last.lengths]
  exact last.books

/-- The length that begins at a boundary is F or the agreed length: READY and PENDING books fit it (R8,
R155). -/
theorem fitsKept_boundaryTick (agreement : agreementKept s) (law : fitsKept s) (b : BoundaryIn) :
    fitsKept (s.boundaryTick b) := by
  have next : s.timebase.boundary.f ∈ s.lengthsRequired := by
    obtain ⟨-, none, records⟩ := agreement
    change s.timebase.nextLength.getD s.timebase.f ∈ _
    cases taken : s.timebase.nextLength with
    | none => exact s.f_mem_lengthsRequired
    | some f =>
      cases record : s.proposal with
      | none => rw [none record] at taken; cases taken
      | some p =>
        obtain ⟨-, -, -, -, opened, agreed⟩ := records p record
        cases state : p.state with
        | opened => rw [(opened state).1] at taken; cases taken
        | agreed =>
          rw [(agreed state).2] at taken
          cases taken
          simp [State.lengthsRequired_of_some record, state]
  have crossed : fitsKept (s.enterFrame.crossBoundary b) := by
    refine fitsKept_crossBoundary _ b fun h c => ?_
    rw [State.book_congr (State.enterFrame_hosts s), State.enterFrame_timebase]
    exact (fitsKept_iff.1 law h c).fewer (by simpa using next)
  exact fitsKept_of_hosts
    (State.lengthsRequired_subset (by simp [State.boundaryTick]) (by simp [State.boundaryTick]))
    (by simp [State.boundaryTick]) crossed

theorem fits_blockLaw : BlockLaw fun s => booksKept s ∧ agreementKept s ∧ fitsKept s where
  congr same law :=
    ⟨books_blockLaw.congr same law.1, agreementKept_blockLaw.congr same law.2.1,
      fitsKept_of_hosts
        (State.lengthsRequired_subset (congrArg Timebase.f same.1) same.2.2.2.2)
        same.2.2.1 law.2.2⟩
  effect law effect :=
    ⟨books_blockLaw.effect law.1 effect, agreementKept_blockLaw.effect law.2.1 effect,
      fitsKept_ownerEffect law.1 law.2.2 effect⟩
  arrival i law next :=
    ⟨books_blockLaw.arrival i law.1 next, agreementKept_blockLaw.arrival i law.2.1 next,
      fitsKept_of_hosts
        (State.lengthsRequired_subset (by simp [State.plainTick, State.mapLanes])
          (by simp [State.plainTick, State.mapLanes]))
        (by simp [State.plainTick, State.mapLanes]) law.2.2⟩
  boundary b law next :=
    ⟨books_blockLaw.boundary b law.1 next, agreementKept_blockLaw.boundary b law.2.1 next,
      fitsKept_boundaryTick law.2.1 law.2.2 b⟩
  completion law queue :=
    ⟨books_blockLaw.completion law.1 queue, agreementKept_blockLaw.completion law.2.1 queue,
      fitsKept_completeJob law.2.2 _⟩
  sessionReset h first law :=
    ⟨books_blockLaw.sessionReset h first law.1, agreementKept_blockLaw.sessionReset h first law.2.1,
      fitsKept_resetBlocks law.2.2 h first⟩
  powerOn := ⟨books_blockLaw.powerOn, agreementKept_blockLaw.powerOn, fitsKept_reset⟩

/-- Settles O60: the change to AGREED demotes what does not fit, and at a boundary a book that leaves
ACTIVE is tested by the agreement unit or, after it, at once. -/
theorem stepKeepsFit : Obligations.StepKeepsFit := fun _ _ books agreement law run =>
  (fits_blockLaw.step ⟨books, agreement, law⟩ run).2.2

end Sys2Proof.Machine
end

section
/-!
PROOFS. One lane at a boundary: the frame-end arrival, the lane table's and the monitor's reactions in
either order, and the arrival at position 0 (R3, R4, R18, R33, R138, R139).
-/

namespace Sys2Proof.Machine

open Sys2Proof.Safety

variable {s t u : State} {l : LaneId} {g : HostId} {x y : Lane}

/-! ### The two reactions on a lane -/

/-- A list that holds two elements once each, cut at both. -/
theorem exists_cut_at_both {α : Type} [DecidableEq α] {a b : α} {xs : List α} (nodup : xs.Nodup)
    (memA : a ∈ xs) (memB : b ∈ xs) (other : a ≠ b) :
    ∃ (front middle back : List α) (p q : α), (p = a ∧ q = b ∨ p = b ∧ q = a) ∧
      xs = front ++ p :: (middle ++ q :: back) ∧
        ∀ ys ∈ [front, middle, back], a ∉ ys ∧ b ∉ ys := by
  obtain ⟨before, after, rfl⟩ := List.append_of_mem memA
  rw [List.nodup_middle, List.nodup_cons, List.mem_append, not_or] at nodup
  obtain ⟨⟨freshBefore, freshAfter⟩, rest⟩ := nodup
  have apart := List.nodup_append.1 rest
  rw [List.mem_append, List.mem_cons] at memB
  rcases memB with mem | same | mem
  · obtain ⟨front, middle, rfl⟩ := List.append_of_mem mem
    have once := apart.1
    rw [List.nodup_middle, List.nodup_cons, List.mem_append, not_or] at once
    rw [List.mem_append, List.mem_cons, not_or, not_or] at freshBefore
    have freshB : b ∉ after := fun again => apart.2.2 b mem b again rfl
    refine ⟨front, middle, after, b, a, .inr ⟨rfl, rfl⟩, by simp, ?_⟩
    simp [freshBefore.1, freshBefore.2.2, freshAfter, once.1.1, once.1.2, freshB]
  · exact absurd same.symm other
  · obtain ⟨middle, back, rfl⟩ := List.append_of_mem mem
    have once := apart.2.1
    rw [List.nodup_middle, List.nodup_cons, List.mem_append, not_or] at once
    rw [List.mem_append, List.mem_cons, not_or, not_or] at freshAfter
    have freshB : b ∉ before := fun again => apart.2.2 b again b mem rfl
    refine ⟨before, middle, back, a, b, .inl ⟨rfl, rfl⟩, rfl, ?_⟩
    simp [freshBefore, freshAfter.1, freshAfter.2.2, once.1.1, once.1.2, freshB]

/-- Lane `x` after the lane table's and the monitor's reactions to a boundary, with their notices, in
the one order or the other. -/
def Lane.crossed (l : LaneId) (frame : Word32) (bit : Bool) (tableFirst : Bool) (x : Lane) :
    Lane × Posts :=
  if tableFirst then
    ((Lane.boundaryCheck l frame bit (Lane.atBoundary l x).1).1,
      (Lane.atBoundary l x).2 ++ (Lane.boundaryCheck l frame bit (Lane.atBoundary l x).1).2)
  else
    ((Lane.atBoundary l (Lane.boundaryCheck l frame bit x).1).1,
      (Lane.boundaryCheck l frame bit x).2 ++ (Lane.atBoundary l (Lane.boundaryCheck l frame bit x).1).2)

theorem State.clearProposal_rbk (s : State) : s.clearProposal.rbk = s.rbk := by
  unfold State.clearProposal
  split
  · dsimp only
    split <;> rfl
  · rfl

theorem State.proposalBoundary_frame (s : State) :
    s.proposalBoundary.1.timebase.frame = s.timebase.frame ∧ s.proposalBoundary.1.rbk = s.rbk := by
  unfold State.proposalBoundary
  split
  · exact ⟨rfl, rfl⟩
  · split
    · exact ⟨by simp, by simp⟩
    · dsimp only
      split
      · exact ⟨rfl, rfl⟩
      · split
        · exact ⟨by rw [State.endProposal, State.postAll_timebase]; exact (State.clearProposal_position _).2.2,
            by simp [State.endProposal, State.clearProposal_rbk]⟩
        · exact ⟨rfl, rfl⟩

namespace Crossing

variable {c : Crossing} {rs : List BoundaryReaction}

theorem run_rbk (c : Crossing) (h : HostId) : (c.run h).state.rbk = c.state.rbk := by
  simp only [Crossing.run]
  split
  · simp
  · split
    · dsimp only
      split <;> simp
    · simp

/-- The reactions to a boundary leave the frame counter and the RBK levels. -/
theorem react_frame (c : Crossing) (r : BoundaryReaction) :
    (c.react r).state.timebase.frame = c.state.timebase.frame ∧
      (c.react r).state.rbk = c.state.rbk := by
  have other (other : r ≠ .agreement) :
      (c.react r).state.timebase.frame = c.state.timebase.frame :=
    congrArg Timebase.frame (c.react_sameAgreement other).timebase
  cases r with
  | lane l => exact ⟨other nofun, by simp [Crossing.react]⟩
  | check l => exact ⟨other nofun, by simp [Crossing.react]⟩
  | load h => exact ⟨other nofun, by simp [Crossing.react]⟩
  | run h => exact ⟨other nofun, c.run_rbk h⟩
  | agreement =>
    obtain ⟨frame, rbk⟩ := c.state.proposalBoundary_frame
    exact ⟨by simpa [Crossing.react, State.agreementBoundary] using frame,
      by simpa [Crossing.react, State.agreementBoundary] using rbk⟩

theorem foldl_frame (rs : List BoundaryReaction) (c : Crossing) :
    (rs.foldl Crossing.react c).state.timebase.frame = c.state.timebase.frame ∧
      (rs.foldl Crossing.react c).state.rbk = c.state.rbk :=
  foldl_keeps _ (fun d : Crossing =>
      d.state.timebase.frame = c.state.timebase.frame ∧ d.state.rbk = c.state.rbk)
    (fun d r same => ⟨(d.react_frame r).1.trans same.1, (d.react_frame r).2.trans same.2⟩) rs c ⟨rfl, rfl⟩

theorem lane_foldl_other (notLane : .lane l ∉ rs) (notCheck : .check l ∉ rs) :
    (rs.foldl Crossing.react c).state.lane l = c.state.lane l :=
  foldl_react_keeps (P := fun d => d.state.lane l = c.state.lane l)
    (fun d _ mem same => (d.lane_react_other (fun h => notLane (h ▸ mem)) fun h => notCheck (h ▸ mem)).trans
      same) c rfl

end Crossing

theorem lane_mem_everyBoundaryReaction (l : LaneId) : .lane l ∈ everyBoundaryReaction := by
  simp [everyBoundaryReaction]

theorem check_mem_everyBoundaryReaction (l : LaneId) : .check l ∈ everyBoundaryReaction := by
  simp [everyBoundaryReaction]

/-- The order of a boundary's reactions, cut at the two on one lane. -/
theorem State.boundaryOrder_cut (s : State) (b : BoundaryIn) (l : LaneId) :
    ∃ (front middle back : List BoundaryReaction) (p q : BoundaryReaction),
      (p = .lane l ∧ q = .check l ∨ p = .check l ∧ q = .lane l) ∧
        s.boundaryOrder b.order = front ++ p :: (middle ++ q :: back) ∧
          ∀ ys ∈ [front, middle, back], .lane l ∉ ys ∧ .check l ∉ ys :=
  exists_cut_at_both (s.nodup_boundaryOrder b.order)
    ((s.mem_boundaryOrder b.order _).2 (lane_mem_everyBoundaryReaction l))
    ((s.mem_boundaryOrder b.order _).2 (check_mem_everyBoundaryReaction l)) (by simp)

/-- One lane at a boundary: the other reactions leave it (R33, R139). -/
theorem State.lane_crossBoundary (s : State) (b : BoundaryIn) (l : LaneId) :
    ∃ first : Bool, (s.crossBoundary b).lane l =
      (Lane.crossed l s.timebase.frame (b.rbk.getLsbD l.val) first (s.lane l)).1 := by
  obtain ⟨front, middle, back, p, q, which, order, fresh⟩ := (s.setRbk b.rbk).boundaryOrder_cut b l
  simp only [List.mem_cons, List.not_mem_nil, or_false, forall_eq_or_imp, forall_eq] at fresh
  obtain ⟨freshFront, freshMiddle, freshBack⟩ := fresh
  rw [State.crossBoundary, order, List.foldl_append, List.foldl_cons, List.foldl_append, List.foldl_cons,
    Crossing.lane_foldl_other freshBack.1 freshBack.2]
  generalize begins : front.foldl Crossing.react ⟨s.setRbk b.rbk, false, []⟩ = c
  have lane : c.state.lane l = s.lane l := by
    rw [← begins, Crossing.lane_foldl_other freshFront.1 freshFront.2]
    rfl
  have now : c.state.timebase.frame = s.timebase.frame ∧ c.state.rbk = b.rbk := by
    rw [← begins]
    exact Crossing.foldl_frame front _
  have next := (Crossing.foldl_frame middle (c.react p))
  rw [(c.react_frame p).1, (c.react_frame p).2, now.1, now.2] at next
  rcases which with ⟨rfl, rfl⟩ | ⟨rfl, rfl⟩
  · refine ⟨true, ?_⟩
    rw [Crossing.lane_react_check, next.1, next.2,
      Crossing.lane_foldl_other freshMiddle.1 freshMiddle.2, Crossing.lane_react_lane, lane]
    rfl
  · refine ⟨false, ?_⟩
    rw [Crossing.lane_react_lane, Crossing.lane_foldl_other freshMiddle.1 freshMiddle.2,
      Crossing.lane_react_check, lane, now.1, now.2]
    rfl

/-! ### The reactions, state by state -/

namespace Lane

variable {f : Word32} {bit first : Bool}

theorem compare_of_unwatched (unwatched : x.watched = false) (p : Nat) :
    Lane.compare l f p bit x = (x, []) :=
  Lane.compare_of_match (by simp [unwatched])

theorem boundaryCheck_of_unwatched (unwatched : x.watched = false) :
    Lane.boundaryCheck l f bit x = (x, []) := by
  unfold Lane.boundaryCheck
  rw [compare_of_unwatched unwatched, ite_self]

/-- With a check pending the monitor does not react to the boundary (R139). -/
theorem boundaryCheck_of_pending (pending : x.check ≠ none) :
    Lane.boundaryCheck l f bit x = (x, []) := if_neg (by simpa using pending)

theorem boundaryCheck_of_none (none : x.check = none) :
    Lane.boundaryCheck l f bit x = Lane.compare l f 0 bit x := if_pos (by simp [none])

/-- The two orders give the same where the monitor does not react. -/
theorem crossed_of_no_check (before : Lane.boundaryCheck l f bit x = (x, []))
    (after : Lane.boundaryCheck l f bit (Lane.atBoundary l x).1 = ((Lane.atBoundary l x).1, [])) :
    Lane.crossed l f bit first x = Lane.atBoundary l x := by
  unfold Lane.crossed
  rw [before, after]
  cases first <;> simp

theorem atBoundary_held (held : x.state = .held) : Lane.atBoundary l x = (x.applySettings, []) := by
  simp only [Lane.atBoundary, held]

theorem atBoundary_offered (offered : x.state = .offered) :
    Lane.atBoundary l x = ((x.countOffer l).1.applySettings, (x.countOffer l).2) := by
  simp only [Lane.atBoundary, offered]

theorem atBoundary_free (free : x.state = .free) : Lane.atBoundary l x = (x, []) := by
  simp only [Lane.atBoundary, free]

theorem atBoundary_retiring (retiring : x.state = .retiring) :
    Lane.atBoundary l x = (x.freed, x.holder.toList.map fun g => (g, .laneFreed l)) := by
  simp only [Lane.atBoundary, retiring]

theorem atBoundary_handover {o : Offer} (handover : x.state = .handover) (offer : x.offer = some o)
    (holder : x.holder = some g) :
    Lane.atBoundary l x =
      (x.handOver o.target,
        [(g, .handoverDone l g o.target), (o.target, .handoverDone l g o.target)]) := by
  simp only [Lane.atBoundary, handover, offer, holder]

/-- What a check can make of a lane: nothing, or a fault. -/
theorem boundaryCheck_cases (l : LaneId) (f : Word32) (bit : Bool) (x : Lane) :
    Lane.boundaryCheck l f bit x = (x, []) ∨
      x.watched = true ∧ x.check = none ∧ x.pin ≠ bit ∧
        Lane.boundaryCheck l f bit x = x.fault l f 0 bit := by
  by_cases pending : x.check = none
  · rw [boundaryCheck_of_none pending]
    by_cases fault : x.watched = true ∧ x.pin ≠ bit
    · exact .inr ⟨fault.1, pending, fault.2, Lane.compare_of_mismatch fault.1 fault.2⟩
    · exact .inl (Lane.compare_of_match fault)
  · exact .inl (boundaryCheck_of_pending pending)

theorem sameHolding_boundaryCheck (l : LaneId) (f : Word32) (bit : Bool) (x : Lane) :
    sameHolding x.toLaneRecord (Lane.boundaryCheck l f bit x).1.toLaneRecord := by
  unfold Lane.boundaryCheck
  split
  · exact sameHolding_compare x f 0 bit
  · exact sameHolding_refl _

/-- A fault changes the state of an OFFERED lane alone (R131). -/
theorem fault_state (notOffered : x.state ≠ .offered) (p : Nat) :
    (x.fault l f p bit).1.state = x.state := by
  unfold Lane.fault
  dsimp only
  split
  · exact absurd ‹_› notOffered
  · rfl

theorem compare_state (notOffered : x.state ≠ .offered) (p : Nat) :
    (Lane.compare l f p bit x).1.state = x.state := by
  unfold Lane.compare
  split
  · exact fault_state notOffered p
  · rfl

theorem boundaryCheck_state (notOffered : x.state ≠ .offered) :
    (Lane.boundaryCheck l f bit x).1.state = x.state := by
  unfold Lane.boundaryCheck
  split
  · exact compare_state notOffered 0
  · rfl

/-! ### The frame-end arrival -/

/-- Lane `x` after the tick and the frame-end arrival of a boundary (R4, R18, R137). -/
def entered (x : Lane) (f : Nat) : Lane := x.tick.arrive f []

theorem entered_eq (x : Lane) (f : Nat) :
    x.entered f =
      { x with
        level := (x.afterPulseEnd f).1, pulseEnd := (x.afterPulseEnd f).2
        check :=
          if (x.afterPulseEnd f).1 ≠ x.level ∧ x.watched = true then some x.settings.settle
          else x.check.map (· - 1) } := by
  rw [entered, Lane.arrive_eq]
  rfl

/-- With no pulse that ends at F, only the pending check counts down. -/
theorem entered_of_runs {f : Nat} (runs : x.pulseEnd ≠ some f) :
    x.entered f = { x with check := x.check.map (· - 1) } := by
  have same : x.afterPulseEnd f = (x.level, x.pulseEnd) := if_neg runs
  rw [entered_eq, same]
  simp

theorem entered_of_ends {f : Nat} (ends : x.pulseEnd = some f) :
    x.entered f =
      { x with
        level := false, pulseEnd := none
        check :=
          if x.level = true ∧ x.watched = true then some x.settings.settle
          else x.check.map (· - 1) } := by
  have same : x.afterPulseEnd f = (false, none) := if_pos ends
  rw [entered_eq, same]
  cases x.level <;> simp

end Lane

theorem State.lane_enterFrame_eq (s : State) (l : LaneId) :
    s.enterFrame.lane l = (s.lane l).entered s.timebase.f := s.lane_enterFrame l

/-! ### The arrival at position 0 -/

/-- The state from which the arrival at position 0 of a new frame begins. -/
def State.crossed (s : State) (b : BoundaryIn) : State := s.enterFrame.crossBoundary b

theorem State.boundaryTick_eq (s : State) (b : BoundaryIn) :
    s.boundaryTick b = (s.crossed b).arrive b.start := rfl

/-- The timebase but for the length that waits to be taken. -/
def Timebase.clock (t : Timebase) : Timebase := { t with nextLength := none }

theorem State.clearProposal_clock (s : State) :
    s.clearProposal.timebase.clock = s.timebase.clock := by
  unfold State.clearProposal
  split
  · dsimp only
    split <;> rfl
  · rfl

theorem State.proposalBoundary_clock (s : State) :
    s.proposalBoundary.1.timebase.clock = s.timebase.clock := by
  unfold State.proposalBoundary
  split
  · rfl
  · split
    · simp
    · dsimp only
      split
      · rfl
      · split
        · rw [State.endProposal, State.postAll_timebase, State.clearProposal_clock]
          rfl
        · rfl

/-- At a boundary the timebase and the record are what the agreement unit's own step leaves (R152,
R156). -/
theorem State.crossed_agreement (s : State) (b : BoundaryIn) :
    ∃ u : State, u.timebase = s.timebase.boundary ∧ u.proposal = s.proposal ∧
      (s.crossed b).timebase = u.proposalBoundary.1.timebase ∧
      (s.crossed b).proposal = u.proposalBoundary.1.proposal := by
  obtain ⟨u, left, timebase, proposal, timebaseAfter, proposalAfter⟩ :=
    s.enterFrame.crossBoundary_agreement b
  rw [State.enterFrame_timebase] at timebase
  rw [State.enterFrame_proposal] at proposal
  refine ⟨u, timebase, proposal, timebaseAfter.trans ?_, proposalAfter.trans ?_⟩
  · simp [State.agreementBoundary]
  · simp [State.agreementBoundary]

theorem State.crossed_clock (s : State) (b : BoundaryIn) :
    (s.crossed b).timebase.clock = ⟨nextF s, 0, s.timebase.frame + 1, none, true⟩ := by
  obtain ⟨u, timebase, -, after, -⟩ := s.crossed_agreement b
  rw [after, State.proposalBoundary_clock, timebase]
  rfl

theorem State.crossed_timebase (s : State) (b : BoundaryIn) :
    (s.crossed b).timebase.f = nextF s ∧ (s.crossed b).timebase.position = 0 ∧
      (s.crossed b).timebase.frame = s.timebase.frame + 1 ∧ (s.crossed b).timebase.fmark = true := by
  have clock := s.crossed_clock b
  exact ⟨congrArg (·.f) clock, congrArg (·.position) clock, congrArg (·.frame) clock,
    congrArg (·.fmark) clock⟩

theorem State.lane_crossed (s : State) (b : BoundaryIn) (l : LaneId) :
    ∃ first : Bool, (s.crossed b).lane l =
      (Lane.crossed l (s.timebase.frame + 1) (b.rbk.getLsbD l.val) first
        ((s.lane l).entered s.timebase.f)).1 := by
  obtain ⟨first, lane⟩ := s.enterFrame.lane_crossBoundary b l
  rw [State.lane_enterFrame_eq, State.enterFrame_timebase] at lane
  exact ⟨first, lane⟩

/-- Where no book has a cue on the lane at offset 0, none starts on it at position 0. -/
theorem State.startingOn_crossed (b : BoundaryIn) (none : noneAtZero s l) (x : Lane) :
    (s.crossed b).startingOn l x = [] := by
  refine List.eq_nil_iff_forall_not_mem.2 fun c mem => ?_
  obtain ⟨-, -, lane, -, g, -, due⟩ := ((s.crossed b).mem_startingOn l x c).1 mem
  obtain ⟨offset, book, -, inBook⟩ := State.of_mem_dueCues due
  have inBook := s.enterFrame.cues_crossBoundary b g book inBook
  rw [State.book_congr s.enterFrame_hosts] at inBook
  exact none g book (mem_allBooks book) c inBook lane (offset.trans (s.crossed_timebase b).2.1)

/-- At an arrival that reaches no pulse end, at which no cue starts and no check falls due, a lane stays
as it is. -/
theorem State.arrive_still (i : ArrivalIn) (none : s.startingOn l (s.lane l) = [])
    (runs : (s.lane l).pulseEnd ≠ some s.timebase.position) (notDue : (s.lane l).check ≠ some 0) :
    (s.arrive i).lane l = s.lane l := by
  rw [State.lane_arrive_unchecked i notDue, State.afterDrive, none, Lane.arrive_eq]
  have same : (s.lane l).afterPulseEnd s.timebase.position =
      ((s.lane l).level, (s.lane l).pulseEnd) := if_neg runs
  simp [same]

theorem Lane.watched_takeDue (x : Lane) : x.takeDue.watched = x.watched := by
  unfold Lane.takeDue
  split <;> rfl

/-- On a lane that is not watched no check is made (R136). -/
theorem State.lane_arrive_of_unwatched (i : ArrivalIn) (unwatched : (s.lane l).watched = false) :
    (s.arrive i).lane l = s.afterDrive l (s.lane l).takeDue := by
  have same {x : Lane} (off : x.watched = false) : s.afterCheck i l x = x := by
    unfold State.afterCheck
    rw [Lane.compare_of_unwatched off, ite_self]
  have driven : (s.afterDrive l (s.lane l).takeDue).watched = false := by
    rw [State.afterDrive, Lane.watched_arrive, Lane.watched_takeDue, unwatched]
  rw [State.lane_arrive, same driven, same ((s.lane l).watched_takeDue.trans unwatched), ite_self]

/-- An arrival changes the state of an OFFERED lane alone (R131). -/
theorem State.arrive_state (i : ArrivalIn) (notOffered : (s.lane l).state ≠ .offered) :
    ((s.arrive i).lane l).state = (s.lane l).state := by
  have drive (x : Lane) : (s.afterDrive l x).state = x.state := by
    rw [State.afterDrive, Lane.arrive_eq]
  have check {x : Lane} (notOffered : x.state ≠ .offered) : (s.afterCheck i l x).state = x.state := by
    unfold State.afterCheck
    split
    · exact Lane.compare_state notOffered _
    · rfl
  have take : (s.lane l).takeDue.state = (s.lane l).state := by
    unfold Lane.takeDue
    split <;> rfl
  rw [State.lane_arrive]
  split
  · rw [check (by rwa [drive, take]), drive, take]
  · rw [drive, check (by rwa [take]), take]

/-! ### O35 -/

namespace Lane

/-- The lane is inactive, with no pulse running. -/
def Still (x : Lane) : Prop := x.level = false ∧ x.pulseEnd = none

theorem Still.atBoundary (still : x.Still) : (Lane.atBoundary l x).1.Still := by
  have apply {y : Lane} (still : y.Still) : y.applySettings.Still := by
    cases staged : y.pending with
    | none => rwa [applySettings_of_none staged]
    | some p =>
      rw [applySettings_of_some staged]
      exact ⟨rfl, rfl⟩
  unfold Lane.atBoundary
  cases state : x.state with
  | free => exact still
  | held => exact apply still
  | offered =>
    refine apply ?_
    unfold Lane.countOffer
    split
    · split <;> exact still
    · exact still
  | handover =>
    dsimp only
    split
    · rw [Lane.handOver_eq]
      exact ⟨rfl, rfl⟩
    · exact still
  | retiring => exact still

theorem Still.boundaryCheck (still : x.Still) (f : Word32) (bit : Bool) :
    (Lane.boundaryCheck l f bit x).1.Still := by
  rcases Lane.boundaryCheck_cases l f bit x with same | ⟨-, -, -, fault⟩
  · rw [same]
    exact still
  · rw [fault]
    exact ⟨(Lane.fault_level x f 0 bit).1, (Lane.fault_level x f 0 bit).2.1⟩

theorem still_entered {f : Nat} (ends : x.pulseEnd = some f) : (x.entered f).Still := by
  rw [entered_of_ends ends]
  exact ⟨rfl, rfl⟩

end Lane

/-- A lane that is inactive when a frame begins, and on which no cue starts at 0, stays so. -/
theorem State.still_boundaryTick (b : BoundaryIn) (still : ((s.lane l).entered s.timebase.f).Still)
    (none : ∀ x, (s.crossed b).startingOn l x = []) : ((s.boundaryTick b).lane l).Still := by
  have crossed : ((s.crossed b).lane l).Still :=
    State.lane_crossBoundary_keeps (P := Lane.Still) (fun _ still => still.atBoundary)
      (fun _ f bit still => still.boundaryCheck f bit) _ b (by rwa [State.lane_enterFrame_eq])
  exact (s.crossed b).arrive_ends b.start l (none _) (.inr crossed)

theorem State.boundaryTick_timebase (s : State) (b : BoundaryIn) :
    (s.boundaryTick b).timebase = (s.crossed b).timebase := by
  rw [State.boundaryTick_eq, State.arrive_timebase]

theorem exec_frameBoundary_next (b : BoundaryIn) (next : boundaryNext s) :
    exec (.frameBoundary b) s = .next (s.boundaryTick b) := by
  rw [exec_frameBoundary, if_pos (s.atBoundary_iff.2 next)]

theorem State.tick_arrival (b : BoundaryIn) (next : arrivalNext s) : s.tick b = s.plainTick b.start := by
  rw [State.tick, if_pos (s.atArrival_iff.2 next)]

theorem State.tick_boundary (b : BoundaryIn) (next : boundaryNext s) : s.tick b = s.boundaryTick b := by
  have notArrival : ¬ s.atArrival = true := fun arrival => by
    have := ((s.atArrival_iff.1 arrival).2)
    have := next.2
    omega
  rw [State.tick, if_neg notArrival, if_pos (s.atBoundary_iff.2 next)]

theorem exec_pulseEnd (b : BoundaryIn) (ends : (s.lane l).pulseEnd = some (s.timebase.position + 1)) :
    exec (.pulseEnd l b) s = .next (s.tick b) := by
  change execPulseEnd l b s = _
  rw [execPulseEnd, if_pos (by simp [State.pulseEndsNext, ends])]

/-- Settles O35. -/
theorem pulseEnds : Obligations.PulseEnds := by
  intro l b s ends
  rw [exec_pulseEnd b ends]
  refine ⟨fun next none => ?_, fun next none => ?_⟩
  · rw [State.tick_arrival b next]
    have starts : s.ticked.startingOn l (s.ticked.lane l) = [] := by
      have same : (s.ticked.lane l).holder = ((atNext s).lane l).holder ∧
          (s.ticked.lane l).state = ((atNext s).lane l).state ∧
            (s.ticked.lane l).faultFlag = ((atNext s).lane l).faultFlag := by
        rw [State.lane_ticked]
        exact ⟨rfl, rfl, rfl⟩
      rw [State.startingOn_base_congr s.ticked_hosts s.ticked_timebase,
        State.startingOn_congr same.1 same.2.1 same.2.2, ← State.starting_self, none]
    have reached : (s.ticked.lane l).pulseEnd = some s.ticked.timebase.position := by
      rw [State.lane_ticked]
      exact ends
    obtain ⟨level, pulse⟩ := s.ticked.arrive_ends b.start l starts (.inl reached)
    exact ⟨_, rfl, level, pulse, s.sameHolding_plainTick b.start l,
      State.arrive_timebase s.ticked b.start, State.arrive_hosts s.ticked b.start⟩
  · rw [State.tick_boundary b next]
    rw [next.2] at ends
    obtain ⟨level, pulse⟩ := State.still_boundaryTick b (Lane.still_entered ends)
      (State.startingOn_crossed b none)
    obtain ⟨-, position, frame, -⟩ := s.crossed_timebase b
    refine ⟨_, rfl, level, pulse, ?_, ?_⟩
    · rw [State.boundaryTick_timebase, position]
    · rw [State.boundaryTick_timebase, frame]

end Sys2Proof.Machine
end

section
/-!
PROOFS. The lane table at a boundary, state by state: what the reactions in either order and the arrival at
position 0 leave of a lane (R26, R29, R30, R33, R126, R130, R137).
-/

namespace Sys2Proof.Machine

open Sys2Proof.Safety

variable {s t u : State} {l : LaneId} {g : HostId} {x y : Lane} {f : Word32} {bit first : Bool}

namespace Lane

/-! ### What both reactions keep -/

/-- The lane is with a giver: HELD or OFFERED. -/
def Given (x : Lane) : Prop := x.state = .held ∨ x.state = .offered

theorem fault_given (given : x.Given) (p : Nat) : (x.fault l f p bit).1.Given := by
  rcases given with held | offered
  · exact .inl ((fault_state (by simp [held]) p).trans held)
  · unfold Lane.fault
    dsimp only
    split
    · exact .inl rfl
    · exact .inr offered

theorem boundaryCheck_given (given : x.Given) : (Lane.boundaryCheck l f bit x).1.Given := by
  rcases boundaryCheck_cases l f bit x with same | ⟨-, -, -, fault⟩
  · rw [same]
    exact given
  · rw [fault]
    exact fault_given given 0

/-- Applied settings: those that were pending, where any were (R29). -/
theorem applySettings_settings (x : Lane) :
    x.applySettings.pending = none ∧ x.applySettings.settings = x.pending.getD x.settings ∧
      x.applySettings.holder = x.holder ∧ x.applySettings.state = x.state ∧
        x.applySettings.faultFlag = x.faultFlag := by
  cases staged : x.pending with
  | none => rw [applySettings_of_none staged]; simp [staged]
  | some p => rw [applySettings_of_some staged]; simp

theorem countOffer_settings (l : LaneId) (x : Lane) :
    (x.countOffer l).1.pending = x.pending ∧ (x.countOffer l).1.settings = x.settings ∧
      (x.countOffer l).1.holder = x.holder ∧ (x.countOffer l).1.faultFlag = x.faultFlag := by
  unfold Lane.countOffer
  split
  · split <;> exact ⟨rfl, rfl, rfl, rfl⟩
  · exact ⟨rfl, rfl, rfl, rfl⟩

/-- The lane table applies the settings of a lane that is with a giver (R29, R33). -/
theorem atBoundary_settings (given : x.Given) :
    (Lane.atBoundary l x).1.pending = none ∧
      (Lane.atBoundary l x).1.settings = x.pending.getD x.settings ∧
        (Lane.atBoundary l x).1.holder = x.holder := by
  rcases given with held | offered
  · rw [atBoundary_held held]
    obtain ⟨pending, settings, holder, -⟩ := x.applySettings_settings
    exact ⟨pending, settings, holder⟩
  · rw [atBoundary_offered offered]
    obtain ⟨pending, settings, holder, -⟩ := (x.countOffer l).1.applySettings_settings
    obtain ⟨pending', settings', holder', -⟩ := countOffer_settings l x
    exact ⟨pending, by rw [settings, pending', settings'], holder.trans holder'⟩

theorem crossed_settings (given : x.Given) :
    (Lane.crossed l f bit first x).1.pending = none ∧
      (Lane.crossed l f bit first x).1.settings = x.pending.getD x.settings ∧
        (Lane.crossed l f bit first x).1.holder = x.holder := by
  unfold Lane.crossed
  split
  · obtain ⟨pending, settings, holder⟩ := atBoundary_settings (l := l) given
    obtain ⟨holder', settings', pending'⟩ := sameHolding_boundaryCheck l f bit (Lane.atBoundary l x).1
    exact ⟨pending'.trans pending, settings'.trans settings, holder'.trans holder⟩
  · obtain ⟨pending, settings, holder⟩ :=
      atBoundary_settings (l := l) (boundaryCheck_given (l := l) (f := f) (bit := bit) given)
    obtain ⟨holder', settings', pending'⟩ := sameHolding_boundaryCheck l f bit x
    exact ⟨pending, by rw [settings, pending', settings'], holder.trans holder'⟩

theorem crossed_held (held : x.state = .held) : (Lane.crossed l f bit first x).1.state = .held := by
  have table {y : Lane} (held : y.state = .held) : (Lane.atBoundary l y).1.state = .held := by
    rw [atBoundary_held held]
    exact y.applySettings_settings.2.2.2.1.trans held
  have check {y : Lane} (held : y.state = .held) : (Lane.boundaryCheck l f bit y).1.state = .held :=
    (boundaryCheck_state (by simp [held])).trans held
  unfold Lane.crossed
  split
  · exact check (table held)
  · exact table (check held)

theorem watched_of_noHolder (none : x.holder = none) : x.watched = false := by
  simp [Lane.watched, none]

theorem crossed_free (free : x.state = .free) : (Lane.crossed l f bit first x).1.state = .free := by
  have check {y : Lane} (free : y.state = .free) : (Lane.boundaryCheck l f bit y).1.state = .free :=
    (boundaryCheck_state (by simp [free])).trans free
  unfold Lane.crossed
  rw [atBoundary_free free]
  split
  · exact check free
  · dsimp only
    rw [atBoundary_free (check free)]
    exact check free

theorem crossed_freed (retiring : x.state = .retiring) :
    ∃ y : Lane, y.settings = x.settings ∧ (Lane.crossed l f bit first x).1 = y.freed := by
  unfold Lane.crossed
  split
  · refine ⟨x, rfl, ?_⟩
    rw [atBoundary_retiring retiring, boundaryCheck_of_unwatched (watched_of_noHolder rfl)]
  · refine ⟨(Lane.boundaryCheck l f bit x).1, (sameHolding_boundaryCheck l f bit x).2.1, ?_⟩
    rw [atBoundary_retiring ((boundaryCheck_state (by simp [retiring])).trans retiring)]

theorem fault_offer (notOffered : x.state ≠ .offered) (p : Nat) :
    (x.fault l f p bit).1.offer = x.offer := by
  unfold Lane.fault
  dsimp only
  split
  · exact absurd ‹_› notOffered
  · rfl

theorem boundaryCheck_offer (notOffered : x.state ≠ .offered) :
    (Lane.boundaryCheck l f bit x).1.offer = x.offer := by
  rcases boundaryCheck_cases l f bit x with same | ⟨-, -, -, fault⟩
  · rw [same]
  · rw [fault, fault_offer notOffered]

/-- A handover completes, whichever reaction comes first: the check it asks for stands in the monitor's
way (R130, R139). -/
theorem crossed_handOver {o : Offer} (handover : x.state = .handover) (offer : x.offer = some o)
    (holder : x.holder = some g) :
    ∃ y : Lane, y.settings = x.settings ∧
      (Lane.crossed l f bit first x).1 = y.handOver o.target := by
  unfold Lane.crossed
  split
  · refine ⟨x, rfl, ?_⟩
    rw [atBoundary_handover handover offer holder]
    dsimp only
    by_cases readback : x.settings.readback = true
    · rw [boundaryCheck_of_pending (by simp [Lane.handOver_eq, readback])]
    · rw [boundaryCheck_of_unwatched (by simp [Lane.handOver_eq, Lane.watched, readback])]
  · have notOffered : x.state ≠ .offered := by simp [handover]
    obtain ⟨holder', settings', -⟩ := sameHolding_boundaryCheck l f bit x
    exact ⟨(Lane.boundaryCheck l f bit x).1, settings', by
      rw [atBoundary_handover ((boundaryCheck_state notOffered).trans handover)
        ((boundaryCheck_offer notOffered).trans offer) (holder'.trans holder)]⟩

/-! ### Settings that are applied -/

/-- Lane `z` has taken the settings `p`: inactive, with the check that they ask for (R29, R137). -/
structure Took (p : Settings) (z : Lane) : Prop where
  still : z.Still
  settings : z.settings = p
  check : z.check = if p.readback = true ∧ z.faultFlag = false then some p.settle else none

theorem applySettings_took {p : Settings} (staged : x.pending = some p) (held : x.holder ≠ none) :
    x.applySettings.Took p := by
  rw [applySettings_of_some staged]
  refine ⟨⟨rfl, rfl⟩, rfl, ?_⟩
  obtain ⟨h, holder⟩ := Option.ne_none_iff_exists'.1 held
  simp [Lane.watchedUnder, holder]

theorem atBoundary_took {p : Settings} (given : x.Given) (staged : x.pending = some p)
    (held : x.holder ≠ none) :
    (Lane.atBoundary l x).1.Took p ∧ (Lane.atBoundary l x).1.faultFlag = x.faultFlag := by
  rcases given with inHand | offered
  · rw [atBoundary_held inHand]
    exact ⟨applySettings_took staged held, x.applySettings_settings.2.2.2.2⟩
  · rw [atBoundary_offered offered]
    obtain ⟨pending, -, holder, flag⟩ := countOffer_settings l x
    exact ⟨applySettings_took (pending.trans staged) (by rwa [holder]),
      (x.countOffer l).1.applySettings_settings.2.2.2.2.trans flag⟩

/-- A lane that has taken its settings is checked by its pending check or not at all. -/
theorem Took.boundaryCheck {p : Settings} (took : x.Took p) : Lane.boundaryCheck l f bit x = (x, []) := by
  by_cases asks : p.readback = true ∧ x.faultFlag = false
  · exact boundaryCheck_of_pending (by simp [took.check, asks])
  · refine boundaryCheck_of_unwatched (Bool.eq_false_iff.2 fun watched => asks ?_)
    rw [Lane.watched, took.settings, Bool.and_eq_true, Bool.and_eq_true, Bool.not_eq_true'] at watched
    exact ⟨watched.1.2, watched.2⟩

/-- Settings that are applied at a boundary, whichever reaction comes first: a check made before them can
fault the lane only where it compares (R29, R139). -/
theorem crossed_took {p : Settings} (given : x.Given) (staged : x.pending = some p)
    (held : x.holder ≠ none) :
    (Lane.crossed l f bit first x).1.Took p ∧
      (x.watched = false ∨ x.check ≠ none ∨ x.pin = bit →
        (Lane.crossed l f bit first x).1.faultFlag = x.faultFlag) := by
  unfold Lane.crossed
  split
  · obtain ⟨took, flag⟩ := atBoundary_took (l := l) given staged held
    rw [took.boundaryCheck]
    exact ⟨took, fun _ => flag⟩
  · obtain ⟨holder, -, pending⟩ := sameHolding_boundaryCheck l f bit x
    obtain ⟨took, flag⟩ := atBoundary_took (l := l) (boundaryCheck_given (l := l) (f := f) (bit := bit) given)
      (pending.trans staged) (by rwa [holder])
    refine ⟨took, fun quiet => flag.trans ?_⟩
    rcases boundaryCheck_cases l f bit x with same | ⟨watched, none, mismatch, -⟩
    · rw [same]
    · rcases quiet with off | pending | equal
      · rw [off] at watched
        cases watched
      · exact absurd none pending
      · exact absurd equal mismatch

/-! ### Lanes with nothing to apply -/

theorem atBoundary_of_held (held : x.state = .held) (noneStaged : x.pending = none) :
    Lane.atBoundary l x = (x, []) := by
  rw [atBoundary_held held, applySettings_of_none noneStaged]

theorem atBoundary_of_offered (offered : x.state = .offered) (noneStaged : x.pending = none) :
    Lane.atBoundary l x = x.countOffer l := by
  rw [atBoundary_offered offered, applySettings_of_none ((countOffer_settings l x).1.trans noneStaged)]

theorem countOffer_check (l : LaneId) (x : Lane) :
    (x.countOffer l).1.check = x.check ∧ (x.countOffer l).1.watched = x.watched ∧
      (x.countOffer l).1.pulseEnd = x.pulseEnd := by
  unfold Lane.countOffer
  split
  · split <;> exact ⟨rfl, rfl, rfl⟩
  · exact ⟨rfl, rfl, rfl⟩

theorem countOffer_of_two_le {o : Offer} {n : Nat} (offer : x.offer = some o)
    (remaining : o.remaining = some n) (more : 2 ≤ n) :
    x.countOffer l = ({ x with offer := some ⟨o.target, some (n - 1)⟩ }, []) := by
  obtain ⟨target, _⟩ := o
  cases remaining
  have later : ¬ n ≤ 1 := by omega
  simp only [Lane.countOffer, offer, later, if_false]

theorem atBoundary_check (given : x.Given) (noneStaged : x.pending = none) :
    (Lane.atBoundary l x).1.check = x.check ∧ (Lane.atBoundary l x).1.watched = x.watched ∧
      (Lane.atBoundary l x).1.pulseEnd = x.pulseEnd := by
  rcases given with held | offered
  · rw [atBoundary_of_held held noneStaged]
    exact ⟨rfl, rfl, rfl⟩
  · rw [atBoundary_of_offered offered noneStaged]
    exact countOffer_check l x

/-- The monitor does not react where the lane is not watched, or a check is pending (R139). -/
theorem crossed_unstaged (given : x.Given) (noneStaged : x.pending = none)
    (quiet : x.watched = false ∨ x.check ≠ none) :
    Lane.crossed l f bit first x = Lane.atBoundary l x := by
  have check {y : Lane} (quiet : y.watched = false ∨ y.check ≠ none) :
      Lane.boundaryCheck l f bit y = (y, []) := by
    rcases quiet with off | pending
    · exact boundaryCheck_of_unwatched off
    · exact boundaryCheck_of_pending pending
  obtain ⟨check', watched', -⟩ := atBoundary_check (l := l) given noneStaged
  exact crossed_of_no_check (check quiet) (check (by rwa [check', watched']))

/-! ### The frame-end arrival keeps -/

theorem entered_keeps (x : Lane) (f : Nat) :
    (x.entered f).state = x.state ∧ (x.entered f).holder = x.holder ∧
      (x.entered f).settings = x.settings ∧ (x.entered f).pending = x.pending ∧
      (x.entered f).offer = x.offer ∧ (x.entered f).faultFlag = x.faultFlag ∧
      (x.entered f).watched = x.watched := by
  rw [entered_eq]
  exact ⟨rfl, rfl, rfl, rfl, rfl, rfl, rfl⟩

theorem entered_check_ne_none (pending : x.check ≠ none) (f : Nat) : (x.entered f).check ≠ none := by
  obtain ⟨n, check⟩ := Option.ne_none_iff_exists'.1 pending
  rw [entered_eq]
  dsimp only
  split <;> simp [check]

theorem entered_given {f : Nat} (given : x.Given) : (x.entered f).Given := by
  unfold Lane.Given
  rwa [(entered_keeps x f).1]

end Lane

/-! ### Lanes after the whole boundary tick -/

variable {b : BoundaryIn}

/-- A lane after a boundary tick that leaves it nothing to do at position 0. -/
theorem State.lane_boundaryTick_still (none : noneAtZero s l) (noPulse : ((s.crossed b).lane l).pulseEnd = .none)
    (notDue : ((s.crossed b).lane l).check ≠ some 0) :
    (s.boundaryTick b).lane l = (s.crossed b).lane l :=
  State.arrive_still (s := s.crossed b) b.start (State.startingOn_crossed b none _) (by simp [noPulse])
    notDue

/-- A lane that is FREE with no holder stays so (R33). -/
theorem State.boundary_free (b : BoundaryIn) (free : (s.lane l).state = .free)
    (noHolder : (s.lane l).holder = none) :
    ((s.boundaryTick b).lane l).state = .free ∧
      sameHolding (s.lane l).toLaneRecord ((s.boundaryTick b).lane l).toLaneRecord := by
  obtain ⟨first, crossed⟩ := s.lane_crossed b l
  obtain ⟨state, holder, settings, pending, -, -, -⟩ := (s.lane l).entered_keeps s.timebase.f
  have unwatched : ((s.lane l).entered s.timebase.f).watched = false :=
    Lane.watched_of_noHolder (holder.trans noHolder)
  have still : (s.crossed b).lane l = (s.lane l).entered s.timebase.f := by
    rw [crossed, Lane.crossed_of_no_check (Lane.boundaryCheck_of_unwatched unwatched) ?_] <;>
      rw [Lane.atBoundary_free (state.trans free)]
    rw [Lane.boundaryCheck_of_unwatched unwatched]
  have same := (s.crossed b).sameHolding_arrive b.start l
  rw [still] at same
  refine ⟨?_, sameHolding_trans ⟨holder, settings, pending⟩ same⟩
  have free : ((s.crossed b).lane l).state = .free := by rw [still, state, free]
  exact (State.arrive_state (s := s.crossed b) b.start (by simp [free])).trans free

/-- A RETIRING lane becomes FREE (R26, R30, R117). -/
theorem State.boundary_retiring (b : BoundaryIn) (retiring : (s.lane l).state = .retiring) :
    ∃ y : Lane, y.settings = (s.lane l).settings ∧
      (s.boundaryTick b).lane l = (s.crossed b).afterDrive l y.freed := by
  obtain ⟨first, crossed⟩ := s.lane_crossed b l
  obtain ⟨state, -, settings, -⟩ := (s.lane l).entered_keeps s.timebase.f
  obtain ⟨y, same, freed⟩ := Lane.crossed_freed (l := l) (f := s.timebase.frame + 1)
    (bit := b.rbk.getLsbD l.val) (first := first) (state.trans retiring)
  rw [freed] at crossed
  refine ⟨y, same.trans settings, ?_⟩
  rw [State.boundaryTick_eq, State.lane_arrive_of_unwatched b.start, crossed]
  · rfl
  · rw [crossed]
    exact Lane.watched_of_noHolder rfl

theorem State.boundary_still (b : BoundaryIn)
    (idle : (s.lane l).state = .free ∨ (s.lane l).state = .retiring)
    (level : laneLevelOk s.timebase.position s.timebase.f (s.lane l).toLaneRecord)
    (next : boundaryNext s) : ((s.boundaryTick b).lane l).Still := by
  have free : ((s.crossed b).lane l).state = .free := by
    obtain ⟨first, crossed⟩ := s.lane_crossed b l
    obtain ⟨state, -⟩ := (s.lane l).entered_keeps s.timebase.f
    rw [crossed]
    rcases idle with free | retiring
    · exact Lane.crossed_free (state.trans free)
    · obtain ⟨y, -, freed⟩ := Lane.crossed_freed (l := l) (f := s.timebase.frame + 1)
        (bit := b.rbk.getLsbD l.val) (first := first) (state.trans retiring)
      rw [freed]
      rfl
  have levelled : ((s.crossed b).lane l).Levelled fun _ => False := by
    refine State.lane_crossBoundary_keeps (P := Lane.Levelled fun _ => False)
      (fun x law => law.atBoundary) (fun x f bit law => law.boundaryCheck f bit) _ b ?_
    rw [State.lane_enterFrame]
    have last := next.2
    have law : (s.lane l).Levelled fun e => s.timebase.f ≤ e ∧ e ≤ s.timebase.f :=
      ⟨fun e pulse => by have := level.1 e pulse; omega, level.2.1, level.2.2⟩
    exact law.tick.arrive_none.weaken fun e beyond => by omega
  refine (s.crossed b).arrive_ends b.start l ?_
    (.inr ⟨levelled.inactive (.inl free) (levelled.free free), levelled.free free⟩)
  refine List.eq_nil_iff_forall_not_mem.2 fun c mem => ?_
  have works := ((s.crossed b).mem_startingOn l _ c).1 mem |>.1
  rw [free] at works
  cases works

/-- A lane that is HELD or OFFERED takes its pending settings and keeps its holder (R29). -/
theorem State.boundary_given (b : BoundaryIn) (given : (s.lane l).Given) :
    ((s.boundaryTick b).lane l).pending = none ∧
      ((s.boundaryTick b).lane l).settings = (s.lane l).pending.getD (s.lane l).settings ∧
        ((s.boundaryTick b).lane l).holder = (s.lane l).holder := by
  obtain ⟨first, crossed⟩ := s.lane_crossed b l
  obtain ⟨-, holder, settings, pending, -⟩ := (s.lane l).entered_keeps s.timebase.f
  obtain ⟨noneLeft, taken, kept⟩ := Lane.crossed_settings (l := l) (f := s.timebase.frame + 1)
    (bit := b.rbk.getLsbD l.val) (first := first) (Lane.entered_given (f := s.timebase.f) given)
  rw [← crossed] at noneLeft taken kept
  obtain ⟨holder', settings', pending'⟩ := (s.crossed b).sameHolding_arrive b.start l
  refine ⟨pending'.trans noneLeft, settings'.trans (taken.trans ?_), holder'.trans (kept.trans holder)⟩
  rw [pending, settings]

theorem State.boundary_held (b : BoundaryIn) (held : (s.lane l).state = .held) :
    ((s.boundaryTick b).lane l).state = .held := by
  obtain ⟨first, crossed⟩ := s.lane_crossed b l
  have state : ((s.crossed b).lane l).state = .held := by
    rw [crossed]
    exact Lane.crossed_held (((s.lane l).entered_keeps s.timebase.f).1.trans held)
  exact (State.arrive_state (s := s.crossed b) b.start (by simp [state])).trans state

/-- An offer that is not checked counts down (R126). -/
theorem State.boundary_counts (b : BoundaryIn) (offered : (s.lane l).state = .offered) {o : Offer}
    (offer : (s.lane l).offer = some o) {n : Nat} (remaining : o.remaining = some n) (more : 2 ≤ n)
    (noneStaged : (s.lane l).pending = none) (unwatched : (s.lane l).watched = false) :
    ((s.boundaryTick b).lane l).state = .offered ∧
      ((s.boundaryTick b).lane l).offer = some ⟨o.target, some (n - 1)⟩ := by
  obtain ⟨first, crossed⟩ := s.lane_crossed b l
  obtain ⟨state, -, -, pending, offer', -, watched⟩ := (s.lane l).entered_keeps s.timebase.f
  rw [Lane.crossed_unstaged (.inr (state.trans offered)) (pending.trans noneStaged)
      (.inl (watched.trans unwatched)),
    Lane.atBoundary_of_offered (state.trans offered) (pending.trans noneStaged),
    Lane.countOffer_of_two_le (offer'.trans offer) remaining more] at crossed
  have off : ((s.crossed b).lane l).watched = false := by
    rw [crossed]
    exact watched.trans unwatched
  have take (x : Lane) : x.takeDue.state = x.state ∧ x.takeDue.offer = x.offer := by
    unfold Lane.takeDue
    split <;> exact ⟨rfl, rfl⟩
  rw [State.boundaryTick_eq, State.lane_arrive_of_unwatched b.start off, State.afterDrive,
    Lane.arrive_eq]
  refine ⟨(take _).1.trans ?_, (take _).2.trans ?_⟩ <;> rw [crossed]
  exact state.trans offered

/-- A HANDOVER lane is held by its target, with no fault, and with the check that its settings ask for
(R130). -/
theorem State.boundary_handOver (b : BoundaryIn) (handover : (s.lane l).state = .handover) {o : Offer}
    (offer : (s.lane l).offer = some o) (holder : (s.lane l).holder = some g)
    (settle : 1 ≤ (s.lane l).settings.settle) :
    ∃ y : Lane, y.settings = (s.lane l).settings ∧
      (s.crossed b).lane l = y.handOver o.target ∧
        (s.boundaryTick b).lane l = (s.crossed b).afterDrive l (y.handOver o.target) := by
  obtain ⟨first, crossed⟩ := s.lane_crossed b l
  obtain ⟨state, holder', settings, -, offer', -⟩ := (s.lane l).entered_keeps s.timebase.f
  obtain ⟨y, same, taken⟩ := Lane.crossed_handOver (l := l) (f := s.timebase.frame + 1)
    (bit := b.rbk.getLsbD l.val) (first := first) (state.trans handover) (offer'.trans offer)
    (holder'.trans holder)
  rw [taken] at crossed
  refine ⟨y, same.trans settings, crossed, ?_⟩
  have notDue : (y.handOver o.target).check ≠ some 0 := by
    rw [Lane.handOver_eq, same, settings]
    split
    · simp
      omega
    · nofun
  rw [State.boundaryTick_eq, State.lane_arrive_unchecked b.start (by rwa [crossed]), crossed]

/-- Pending settings with a check of their own: what a boundary makes of the level and the check (R29). -/
theorem State.boundary_took (b : BoundaryIn) (own : laneOwnershipOk (s.lane l).toLaneRecord)
    (none : noneAtZero s l) (given : (s.lane l).Given) {p : Settings}
    (staged : (s.lane l).pending = some p) (settle : 1 ≤ p.settle) :
    ((s.boundaryTick b).lane l).Took p ∧
      ((s.lane l).watched = false ∨ (s.lane l).check ≠ .none ∨
          ((s.lane l).pulseEnd = .none ∧ b.rbk.getLsbD l.val = (s.lane l).pin) →
        ((s.boundaryTick b).lane l).faultFlag = (s.lane l).faultFlag) := by
  obtain ⟨first, crossed⟩ := s.lane_crossed b l
  obtain ⟨-, holder, -, pending, -, flag, watched⟩ := (s.lane l).entered_keeps s.timebase.f
  have held : (s.lane l).holder ≠ .none := fun noHolder => by
    have free := own.1.2 noHolder
    rcases given with state | state <;> rw [state] at free <;> cases free
  obtain ⟨took, sound⟩ := Lane.crossed_took (l := l) (f := s.timebase.frame + 1)
    (bit := b.rbk.getLsbD l.val) (first := first) (Lane.entered_given (f := s.timebase.f) given)
    (pending.trans staged) (by rwa [holder])
  rw [← crossed] at took sound
  have notDue : ((s.crossed b).lane l).check ≠ some 0 := by
    rw [took.check]
    split
    · simp
      omega
    · nofun
  rw [State.lane_boundaryTick_still none took.still.2 notDue]
  refine ⟨took, fun quiet => (sound ?_).trans flag⟩
  rcases quiet with off | check | ⟨noPulse, equal⟩
  · exact .inl (watched.trans off)
  · exact .inr (.inl (Lane.entered_check_ne_none check _))
  · refine .inr (.inr ?_)
    rw [Lane.entered_of_runs (by simp [noPulse])]
    exact equal.symm

/-- A pulse that ends at F on a lane with nothing to apply (R18, R137). -/
theorem State.boundary_pulseEnd (b : BoundaryIn) (none : noneAtZero s l) (given : (s.lane l).Given)
    (noneStaged : (s.lane l).pending = .none) (ends : (s.lane l).pulseEnd = some s.timebase.f)
    (level : (s.lane l).level = true) (settle : 1 ≤ (s.lane l).settings.settle) :
    ((s.boundaryTick b).lane l).Still ∧
      ((s.lane l).watched = true →
        ((s.boundaryTick b).lane l).check = some (s.lane l).settings.settle) := by
  refine ⟨State.still_boundaryTick b (Lane.still_entered ends) (State.startingOn_crossed b none),
    fun watched => ?_⟩
  obtain ⟨first, crossed⟩ := s.lane_crossed b l
  obtain ⟨-, -, -, pending, -, -, -⟩ := (s.lane l).entered_keeps s.timebase.f
  have check : ((s.lane l).entered s.timebase.f).check = some (s.lane l).settings.settle := by
    rw [Lane.entered_of_ends ends]
    exact if_pos ⟨level, watched⟩
  have given' := Lane.entered_given (f := s.timebase.f) given
  rw [Lane.crossed_unstaged given' (pending.trans noneStaged) (.inr (by simp [check]))] at crossed
  have kept : ((s.crossed b).lane l).check = some (s.lane l).settings.settle := by
    rw [crossed, (Lane.atBoundary_check (l := l) given' (pending.trans noneStaged)).1, check]
  have noPulse : ((s.crossed b).lane l).pulseEnd = .none := by
    rw [crossed]
    exact ((Lane.still_entered ends).atBoundary (l := l)).2
  rw [State.lane_boundaryTick_still none noPulse (by simp [kept]; omega), kept]

/-- A lane with nothing to apply and no check that is made counts down (R126, R137). -/
theorem State.boundary_unstaged (b : BoundaryIn) (none : noneAtZero s l) (given : (s.lane l).Given)
    (noneStaged : (s.lane l).pending = .none) (noPulse : (s.lane l).pulseEnd = .none)
    (quiet : (s.lane l).watched = false ∨ (s.lane l).check ≠ .none)
    (later : ∀ n ∈ (s.lane l).check, 2 ≤ n) :
    (s.boundaryTick b).lane l = (Lane.atBoundary l (s.lane l).tick).1 := by
  obtain ⟨first, crossed⟩ := s.lane_crossed b l
  have entered : (s.lane l).entered s.timebase.f = (s.lane l).tick :=
    Lane.entered_of_runs (by simp [noPulse])
  have given' : (s.lane l).tick.Given := given
  have quiet' : (s.lane l).tick.watched = false ∨ (s.lane l).tick.check ≠ .none :=
    quiet.imp_right fun pending => by simpa [Lane.tick] using pending
  rw [entered, Lane.crossed_unstaged given' noneStaged quiet'] at crossed
  obtain ⟨check, -, pulse⟩ := Lane.atBoundary_check (l := l) given' noneStaged
  have noPulse' : ((s.crossed b).lane l).pulseEnd = .none := by
    rw [crossed, pulse]
    exact noPulse
  have notDue : ((s.crossed b).lane l).check ≠ some 0 := by
    rw [crossed, check]
    exact notDue_of_two_le later
  rw [State.lane_boundaryTick_still none noPulse' notDue, crossed]

end Sys2Proof.Machine
end

section
/-!
PROOFS. Which host a boundary tells what: every reaction's notices to one host, and a host to which all
reactions but a few tell nothing (R3, R175).
-/

namespace Sys2Proof.Machine

open Sys2Proof.Safety

variable {s t u : State} {l : LaneId} {g h : HostId} {x y : Lane} {bs cs : List NoticeBody}

/-! ### Lanes -/

namespace Lane

/-- The lane's reactions to a boundary tell host `g` nothing: `g` is a stranger to it, or it is calm. -/
def restFor (x : Lane) (g : HostId) : Prop :=
  (x.holder ≠ some g ∧ x.offer.map (·.target) ≠ some g) ∨ calmLane x

theorem restFor.deaf (rest : x.restFor g) : x.deafTo g := rest.imp_right fun calm => calm.2.2

theorem restFor.entered (rest : x.restFor g) (f : Nat) : (x.entered f).restFor g := by
  obtain ⟨state, holder, -, pending, offer, -, watched⟩ := x.entered_keeps f
  unfold restFor calmLane
  rwa [state, holder, pending, offer, watched]

theorem restFor.boundaryCheck (rest : x.restFor g) (f : Word32) (bit : Bool) :
    State.postsFor g (Lane.boundaryCheck l f bit x).2 = [] ∧
      (Lane.boundaryCheck l f bit x).1.restFor g := by
  rcases boundaryCheck_cases l f bit x with same | ⟨watched, -, -, fault⟩
  · rw [same]
    exact ⟨rfl, rest⟩
  · obtain ⟨notHolder, notTarget⟩ := rest.resolve_right fun calm => by
      rw [calm.2.2] at watched
      cases watched
    have quiet : x.deafTo g := .inl ⟨notHolder, notTarget⟩
    rw [fault]
    unfold Lane.fault
    dsimp only
    split
    · rename_i o _ offer
      have notTarget : o.target ≠ g := by simpa [offer] using notTarget
      exact ⟨by simp [State.postsFor_append, State.postsFor_toList, State.postsFor_singleton, notHolder,
        notTarget], .inl ⟨notHolder, by simp [Lane.offerEnded]⟩⟩
    · exact ⟨by simp [State.postsFor_toList, notHolder], .inl ⟨notHolder, notTarget⟩⟩

theorem restFor.countOffer (notHolder : x.holder ≠ some g)
    (notTarget : x.offer.map (·.target) ≠ some g) :
    State.postsFor g (x.countOffer l).2 = [] ∧
      ((x.countOffer l).1.holder ≠ some g ∧ (x.countOffer l).1.offer.map (·.target) ≠ some g) := by
  unfold Lane.countOffer
  split
  · rename_i target n offer
    have notTarget' : target ≠ g := by simpa [offer] using notTarget
    split
    · exact ⟨by simp [State.postsFor_append, State.postsFor_toList, State.postsFor_singleton, notHolder,
        notTarget'], notHolder, by simp⟩
    · exact ⟨rfl, notHolder, by simpa using notTarget'⟩
  · exact ⟨rfl, notHolder, notTarget⟩

theorem applySettings_offer (x : Lane) : x.applySettings.offer = x.offer := by
  cases staged : x.pending with
  | none => rw [applySettings_of_none staged]
  | some p => rw [applySettings_of_some staged]

theorem restFor.atBoundary (rest : x.restFor g) :
    State.postsFor g (Lane.atBoundary l x).2 = [] ∧ (Lane.atBoundary l x).1.restFor g := by
  rcases rest with ⟨notHolder, notTarget⟩ | calm
  · have apply {y : Lane} (notHolder : y.holder ≠ some g) (notTarget : y.offer.map (·.target) ≠ some g) :
        y.applySettings.restFor g := by
      refine .inl ⟨?_, ?_⟩
      · rwa [y.applySettings_settings.2.2.1]
      · rwa [y.applySettings_offer]
    unfold Lane.atBoundary
    cases state : x.state with
    | free => exact ⟨rfl, .inl ⟨notHolder, notTarget⟩⟩
    | held => exact ⟨rfl, apply notHolder notTarget⟩
    | offered =>
      obtain ⟨quiet, holder, target⟩ := restFor.countOffer (l := l) notHolder notTarget
      exact ⟨quiet, apply holder target⟩
    | handover =>
      dsimp only
      split
      · rename_i o giver offer holder
        have notTarget : o.target ≠ g := by simpa [offer] using notTarget
        have notHolder : giver ≠ g := by simpa [holder] using notHolder
        refine ⟨State.postsFor_eq_nil (by simp [notHolder, notTarget]), .inl ?_⟩
        rw [Lane.handOver_eq]
        simpa using notTarget
      · exact ⟨rfl, .inl ⟨notHolder, notTarget⟩⟩
    | retiring =>
      exact ⟨by simp [State.postsFor_toList, notHolder], .inl ⟨nofun, notTarget⟩⟩
  · rw [atBoundary_of_held calm.1 calm.2.1]
    exact ⟨rfl, .inr calm⟩

end Lane

/-! ### Notices of the other reactions -/

namespace State

theorem tells_post (s : State) (h : HostId) (b : NoticeBody) (g : HostId) :
    s.Tells g (if h = g then [b] else []) (s.post h b) := by
  have told := s.tells_postAll [(h, b)] g
  rwa [postsFor_singleton] at told

theorem tells_loadBoundary_other (s : State) (other : h ≠ g) : s.Tells g [] (s.loadBoundary h) := by
  unfold State.loadBoundary
  split
  · exact .refl s g
  · rename_i ld load
    split
    · exact .of_port rfl rfl
    · have told := (s.setHost h ((s.host h).rollBack ld)).tells_post h (.loadTimeout ld.book ld.received) g
      rw [if_neg other] at told
      exact (Tells.of_port (s := s) (t := s.setHost h ((s.host h).rollBack ld)) rfl rfl).quiet told


/-- A change that posts nothing, and then one notice. -/
theorem tells_then_post (timebase : u.timebase = s.timebase) (ports : u.ports = s.ports) (h : HostId)
    (b : NoticeBody) (g : HostId) : s.Tells g (if h = g then [b] else []) (u.post h b) :=
  (Tells.of_port (congrArg Timebase.frame timebase) (by simp [State.port, ports])).quiet
    (u.tells_post h b g)

end State

/-- What run control tells a host at a boundary (R100, R103, R107, R108). -/
def HostRecord.runTold (r : HostRecord) : List NoticeBody :=
  match r.run.mode, r.run.action, r.run.active with
  | .single, .swapTo b, _ => [.bookActive b]
  | .single, .halt, some a => [.halted a]
  | .alternate, _, some a =>
    if r.run.turn ≤ 1 then
      if (r.book a.other).state = .ready then [.bookActive a.other]
      else [.turnSkipped a.other (r.book a.other).state]
    else []
  | _, _, _ => []

namespace State

theorem tells_carrySwap (s : State) (h : HostId) (b : BookId) (g : HostId) :
    s.Tells g (if h = g then [.bookActive b] else []) (s.carrySwap h b) := by
  unfold State.carrySwap
  dsimp only
  cases (s.run h).active <;> exact tells_then_post (by rfl) (by rfl) h _ g

theorem tells_carryHalt (s : State) (h : HostId) (a : BookId) (g : HostId) :
    s.Tells g (if h = g then [.halted a] else []) (s.carryHalt h a) :=
  tells_then_post (by rfl) (by rfl) h _ g

theorem tells_takeTurn (s : State) (h : HostId) (a : BookId) (g : HostId) :
    s.Tells g
      (if h = g then
        if ((s.host h).book a.other).state = .ready then [.bookActive a.other]
        else [.turnSkipped a.other ((s.host h).book a.other).state]
      else []) (s.takeTurn h a) := by
  unfold State.takeTurn State.book
  by_cases ready : ((s.host h).book a.other).state = .ready
  · simp only [ready, if_true]
    exact tells_then_post (by rfl) (by rfl) h _ g
  · simp only [ready, if_false]
    exact tells_then_post (by rfl) (by rfl) h _ g

theorem tells_runBoundary (s : State) (h g : HostId) :
    s.Tells g (if h = g then (s.host h).runTold else []) (s.runBoundary h) := by
  have none : s.Tells g (if h = g then [] else []) s := by
    rw [ite_self]
    exact .refl s g
  simp only [State.runBoundary, HostRecord.runTold, State.run]
  cases mode : (s.host h).run.mode with
  | single =>
    cases action : (s.host h).run.action with
    | none => simpa only using none
    | swapTo b => simpa only using s.tells_carrySwap h b g
    | halt =>
      cases active : (s.host h).run.active with
      | none => simpa only using none
      | some a => simpa only using s.tells_carryHalt h a g
  | alternate =>
    cases active : (s.host h).run.active with
    | none => simpa only using none
    | some a =>
      by_cases turn : (s.host h).run.turn ≤ 1
      · simpa only [turn, if_true] using s.tells_takeTurn h a g
      · have quiet : s.Tells g [] (s.setRun h { (s.host h).run with turn := (s.host h).run.turn - 1 }) :=
          .of_port rfl rfl
        simpa only [turn, if_false, ite_self, active, mode] using quiet

theorem tells_demote (s : State) (h : HostId) (b : BookId) (g : HostId) :
    s.Tells g (if h = g then [.bookDemoted b] else []) (s.demote h b) :=
  tells_then_post (by rfl) (by rfl) h _ g

end State

/-- The notices of the demotions of a host's books, book A first (R154, R175). -/
def HostRecord.demotedTold (r : HostRecord) (test : BookId → Book → Bool) : List NoticeBody :=
  (if test .A (r.book .A) then [.bookDemoted .A] else []) ++
    if test .B (r.book .B) then [.bookDemoted .B] else []

namespace State

theorem tells_demoteIf (s : State) (test : Book → Bool) (h : HostId) (b : BookId) (g : HostId) :
    s.Tells g (if h = g then if test ((s.host h).book b) then [.bookDemoted b] else [] else [])
      (if test (s.book h b) then s.demote h b else s) := by
  unfold State.book
  by_cases chosen : test ((s.host h).book b) = true
  · simp only [chosen, if_true]
    exact s.tells_demote h b g
  · simp only [if_neg chosen, ite_self]
    exact .refl s g

theorem tells_demoteOf (s : State) (p : HostId → BookId → Book → Bool) (h g : HostId) :
    s.Tells g (if h = g then (s.host h).demotedTold (p h) else []) (s.demoteOf p h) := by
  simp only [State.demoteOf, allBooks, List.foldl_cons, List.foldl_nil]
  have first := s.tells_demoteIf (p h .A) h .A g
  have second := (if p h .A (s.book h .A) then s.demote h .A else s).tells_demoteIf (p h .B) h .B g
  have bookB : ((if p h .A (s.book h .A) then s.demote h .A else s).host h).book .B =
      (s.host h).book .B := by
    rw [State.host_demoteIf, if_pos rfl, HostRecord.book_demoteIf]
    simp
  rw [bookB] at second
  have both := first.trans second
  unfold HostRecord.demotedTold
  by_cases own : h = g
  · rw [if_pos own, if_pos own] at both
    rwa [if_pos own]
  · rw [if_neg own, if_neg own] at both
    rwa [if_neg own]

theorem tells_foldl_demoteOf (p : HostId → BookId → Book → Bool) (s : State) {hs : List HostId}
    (nodup : hs.Nodup) (g : HostId) :
    s.Tells g (if g ∈ hs then (s.host g).demotedTold (p g) else []) (hs.foldl (State.demoteOf p) s) := by
  induction hs generalizing s with
  | nil => exact .refl s g
  | cons h hs ih =>
    obtain ⟨new, nodup⟩ := List.nodup_cons.1 nodup
    have first := s.tells_demoteOf p h g
    have rest := ih (s.demoteOf p h) nodup
    have told := first.trans rest
    rw [State.host_demoteOf] at told
    by_cases same : g = h
    · subst same
      simpa [new] using told
    · simpa [same, Ne.symm same] using told

/-- Demotions tell each host of its own books (R104, R154). -/
theorem tells_demoteWhere (s : State) (p : HostId → BookId → Book → Bool) (g : HostId) :
    s.Tells g ((s.host g).demotedTold (p g)) (s.demoteWhere p) := by
  have told := tells_foldl_demoteOf p s nodup_allHosts g
  rw [if_pos (mem_allHosts g)] at told
  rwa [State.demoteWhere_eq]

end State

/-! ### A host to which a boundary tells little -/

theorem HostRecord.move_load (r : HostRecord) (b : BookId) (st : BookState) :
    (r.move b st).load = r.load := HostRecord.setBook_load _ _ _

theorem HostRecord.runBoundary_load (r : HostRecord) : r.runBoundary.load = r.load := by
  unfold HostRecord.runBoundary HostRecord.carrySwap HostRecord.carryHalt HostRecord.takeTurn
  split
  · rw [HostRecord.setRun_load, HostRecord.move_load, HostRecord.leave_load]
  · rw [HostRecord.setRun_load, HostRecord.move_load]
  · split
    · split
      · rw [HostRecord.setRun_load, HostRecord.move_load, HostRecord.move_load]
      · rfl
    · rfl
  · rfl

theorem HostRecord.demoteBoth_of_none {r : HostRecord} {test : BookId → Book → Bool}
    (none : ∀ b, test b (r.book b) = false) :
    r.demoteBoth test = r ∧ r.demotedTold test = [] := by
  have a := none .A
  have b := none .B
  exact ⟨by simp [HostRecord.demoteBoth, HostRecord.demoteIf, a, b],
    by simp [HostRecord.demotedTold, a, b]⟩

/-- Host `g` during a boundary at which only the reactions `loud` can tell it something. -/
structure Crossing.Hush (g : HostId) (loud : BoundaryReaction → Prop) (c : Crossing) : Prop where
  lanes : ∀ k, ¬ (loud (.lane k) ∧ loud (.check k)) → (c.state.lane k).restFor g
  load : ¬ loud (.load g) → (c.state.host g).load = none
  run : ¬ loud (.run g) → (c.state.host g).run.active = none ∧ (c.state.host g).run.action = .none
  record : ¬ loud .agreement → c.state.proposal = none
  left : ∀ b, (g, b) ∈ c.left →
    loud (.run g) ∧ (c.state.book g b).fits c.state.timebase.f = true

/-- With nothing running run control does nothing. -/
theorem HostRecord.runBoundary_of_rest {r : HostRecord} (active : r.run.active = none)
    (action : r.run.action = .none) : r.runBoundary = r ∧ r.leaver = none ∧ r.runTold = [] := by
  refine ⟨?_, by simp [HostRecord.leaver, active], ?_⟩
  · unfold HostRecord.runBoundary
    split <;> simp_all
  · unfold HostRecord.runTold
    split <;> simp_all

namespace Crossing

variable {c : Crossing} {loud : BoundaryReaction → Prop} {r : BoundaryReaction}

/-- What is read of host `g` by the others' reactions is its record, the record of the proposal, and the
books it has left. -/
theorem Hush.of_same {d : Crossing} (hush : c.Hush g loud)
    (lanes : ∀ k, ¬ (loud (.lane k) ∧ loud (.check k)) → (d.state.lane k).restFor g)
    (host : d.state.host g = c.state.host g) (proposal : d.state.proposal = c.state.proposal)
    (length : d.state.timebase.f = c.state.timebase.f) (left : ∀ b, (g, b) ∈ d.left → (g, b) ∈ c.left) :
    d.Hush g loud := by
  refine ⟨lanes, by rw [host]; exact hush.load, by rw [host]; exact hush.run,
    by rw [proposal]; exact hush.record, fun b mem => ?_⟩
  rw [length, State.book, host]
  exact hush.left b (left b mem)

theorem Hush.lane (hush : c.Hush g loud) (l : LaneId) : (c.react (.lane l)).Hush g loud := by
  refine hush.of_same (fun k quiet => ?_) (by simp [Crossing.react, State.host])
    (by simp [Crossing.react]) (by simp [Crossing.react]) fun b mem => mem
  rw [Crossing.react, State.lane_reactLane]
  split
  · rename_i same
    subst same
    exact (hush.lanes k quiet).atBoundary.2
  · exact hush.lanes k quiet

theorem Hush.check (hush : c.Hush g loud) (l : LaneId) : (c.react (.check l)).Hush g loud := by
  refine hush.of_same (fun k quiet => ?_) (by simp [Crossing.react, State.host])
    (by simp [Crossing.react]) (by simp [Crossing.react]) fun b mem => mem
  rw [Crossing.react, State.boundaryCheck, State.lane_reactLane]
  split
  · rename_i same
    subst same
    exact ((hush.lanes k quiet).boundaryCheck _ _).2
  · exact hush.lanes k quiet

theorem Hush.tells_lane (hush : c.Hush g loud) (quiet : ¬ (loud (.lane l) ∧ loud (.check l))) :
    c.state.Tells g [] (c.react (.lane l)).state := by
  have told := State.tells_reactLane c.state l (Lane.atBoundary l) g
  rwa [((hush.lanes l quiet).atBoundary (l := l)).1] at told

theorem Hush.tells_check (hush : c.Hush g loud) (quiet : ¬ (loud (.lane l) ∧ loud (.check l))) :
    c.state.Tells g [] (c.react (.check l)).state := by
  have told := State.tells_reactLane c.state l
    (Lane.boundaryCheck l c.state.timebase.frame (c.state.rbk.getLsbD l.val)) g
  rwa [((hush.lanes l quiet).boundaryCheck _ _).1] at told

/-- The other hosts' reactions do not touch a host's record, and post it nothing. -/
theorem run_other (c : Crossing) (other : h ≠ g) :
    (c.run h).state.host g = c.state.host g ∧ c.state.Tells g [] (c.run h).state ∧
      ∀ b, (g, b) ∈ (c.run h).left ↔ (g, b) ∈ c.left := by
  have ran := c.state.tells_runBoundary h g
  rw [if_neg other] at ran
  have host : (c.state.runBoundary h).host g = c.state.host g := by
    rw [State.host_runBoundary, if_neg (Ne.symm other)]
  simp only [Crossing.run]
  split
  · exact ⟨host, ran, fun b => Iff.rfl⟩
  · rename_i a _
    split
    · have demoted := (c.state.runBoundary h).tells_demote h a g
      rw [if_neg other] at demoted
      refine ⟨?_, ?_, fun b => Iff.rfl⟩
      · dsimp only
        split
        · rw [State.host_demote_eq, if_neg (Ne.symm other), host]
        · exact host
      · dsimp only
        split
        · exact ran.quiet demoted
        · exact ran
    · refine ⟨host, ran, fun b => ?_⟩
      have away : (g, b) ≠ (h, a) := fun same => other (congrArg Prod.fst same).symm
      simp [away]

theorem react_load_other (c : Crossing) (other : h ≠ g) :
    (c.react (.load h)).state.host g = c.state.host g := by
  rw [Crossing.react, State.host_loadBoundary, if_neg (Ne.symm other)]

/-- With no proposal the agreement unit tests the books that have left ACTIVE alone (R155). -/
theorem agreement_of_none (c : Crossing) (none : c.state.proposal = none)
    (fits : ∀ b, (g, b) ∈ c.left → (c.state.book g b).fits c.state.timebase.f = true) :
    (c.react .agreement).state.host g = c.state.host g ∧
      c.state.Tells g [] (c.react .agreement).state ∧
        (c.react .agreement).state.proposal = .none := by
  have step : c.state.proposalBoundary = (c.state, .none) := by
    simp only [State.proposalBoundary, none]
  have untouched : ∀ b, (false || (c.left.contains (g, b) &&
      c.state.leaverMisfit ((c.state.host g).book b))) = false := by
    intro b
    by_cases mem : (g, b) ∈ c.left
    · have fits : ((c.state.host g).book b).fits c.state.timebase.f = true := fits b mem
      simp [State.leaverMisfit, State.lengthsRequired_of_none none, fits]
    · simp [mem]
  obtain ⟨same, quiet⟩ := HostRecord.demoteBoth_of_none (r := c.state.host g)
    (test := fun b bk => false || (c.left.contains (g, b) && c.state.leaverMisfit bk)) untouched
  simp only [Crossing.react, State.agreementBoundary, step]
  refine ⟨?_, ?_, by simpa using none⟩
  · rw [State.host_demoteWhere]
    exact same
  · have told := c.state.tells_demoteWhere
      (fun h b bk => false || (c.left.contains (h, b) && c.state.leaverMisfit bk)) g
    rwa [quiet] at told

/-- A reaction that is not loud tells host `g` nothing, and leaves its record. -/
theorem Hush.react (hush : c.Hush g loud) (quiet : ¬ loud r) :
    (c.react r).Hush g loud ∧ (c.react r).state.host g = c.state.host g ∧
      c.state.Tells g [] (c.react r).state := by
  cases r with
  | lane l => exact ⟨hush.lane l, by simp [Crossing.react, State.host], hush.tells_lane fun both => quiet both.1⟩
  | check l =>
    exact ⟨hush.check l, by simp [Crossing.react, State.host], hush.tells_check fun both => quiet both.2⟩
  | load h =>
    by_cases own : h = g
    · subst own
      have same : c.react (.load h) = c := by
        simp only [Crossing.react, State.loadBoundary, hush.load quiet]
      rw [same]
      exact ⟨hush, rfl, .refl _ _⟩
    · refine ⟨hush.of_same (fun k off => ?_) (c.react_load_other own) (by simp [Crossing.react])
        (by simp [Crossing.react]) fun b mem => mem, c.react_load_other own,
        State.tells_loadBoundary_other c.state own⟩
      rw [Crossing.lane_react_other (r := .load h) c (by simp) (by simp)]
      exact hush.lanes k off
  | run h =>
    by_cases own : h = g
    · subst own
      obtain ⟨active, action⟩ := hush.run quiet
      obtain ⟨rests, leaver, silent⟩ := HostRecord.runBoundary_of_rest active action
      have same : c.react (.run h) = { c with state := c.state.runBoundary h } := by
        simp only [Crossing.react, Crossing.run, State.leavesActive_eq, leaver]
      have host : (c.state.runBoundary h).host h = c.state.host h := by
        rw [State.host_runBoundary, if_pos rfl, rests]
      have told := c.state.tells_runBoundary h h
      rw [if_pos rfl, silent] at told
      rw [same]
      refine ⟨hush.of_same (fun k off => ?_) host (by simp) (by simp) fun b mem => mem, host, told⟩
      rw [State.lane_congr (State.runBoundary_lanes _ _)]
      exact hush.lanes k off
    · obtain ⟨host, told, left⟩ := c.run_other own
      refine ⟨hush.of_same (fun k off => ?_) host ?_ ?_ fun b => (left b).1, host, told⟩
      · rw [Crossing.lane_react_other (r := .run h) c (by simp) (by simp)]
        exact hush.lanes k off
      · exact (c.run_sameAgreement h).proposal
      · exact congrArg Timebase.f (c.run_sameAgreement h).timebase
  | agreement =>
    obtain ⟨host, told, record⟩ := c.agreement_of_none (hush.record quiet) fun b mem => (hush.left b mem).2
    refine ⟨hush.of_same (fun k off => ?_) host (record.trans (hush.record quiet).symm) ?_ fun b mem => mem,
      host, told⟩
    · rw [Crossing.lane_react_other (r := .agreement) c (by simp) (by simp)]
      exact hush.lanes k off
    · have clock := c.state.proposalBoundary_clock
      have length := congrArg Timebase.f clock
      simpa [Crossing.react, State.agreementBoundary, Timebase.clock] using length

theorem Hush.foldl {rs : List BoundaryReaction} (hush : c.Hush g loud) (quiet : ∀ r ∈ rs, ¬ loud r) :
    (rs.foldl Crossing.react c).Hush g loud ∧
      (rs.foldl Crossing.react c).state.host g = c.state.host g ∧
        c.state.Tells g [] (rs.foldl Crossing.react c).state := by
  induction rs generalizing c with
  | nil => exact ⟨hush, rfl, .refl _ _⟩
  | cons r rs ih =>
    obtain ⟨now, host, told⟩ := hush.react (quiet r List.mem_cons_self)
    obtain ⟨last, hostLast, toldLast⟩ := ih now fun q mem => quiet q (List.mem_cons_of_mem _ mem)
    exact ⟨last, hostLast.trans host, told.quiet toldLast⟩

/-- The reactions leave the timebase but for the length that waits to be taken. -/
theorem react_clock (c : Crossing) (r : BoundaryReaction) :
    (c.react r).state.timebase.clock = c.state.timebase.clock := by
  by_cases other : r = .agreement
  · subst other
    simpa [Crossing.react, State.agreementBoundary] using c.state.proposalBoundary_clock
  · rw [(c.react_sameAgreement other).timebase]

theorem foldl_clock (rs : List BoundaryReaction) (c : Crossing) :
    (rs.foldl Crossing.react c).state.timebase.clock = c.state.timebase.clock :=
  foldl_keeps _ (fun d : Crossing => d.state.timebase.clock = c.state.timebase.clock)
    (fun d r same => (d.react_clock r).trans same) rs c rfl

end Crossing

/-! ### A boundary, and its arrival -/

/-- The boundary as its reactions begin. -/
def State.begun (s : State) (b : BoundaryIn) : Crossing := ⟨s.enterFrame.setRbk b.rbk, false, []⟩

variable {b : BoundaryIn} {loud : BoundaryReaction → Prop}

theorem State.host_begun (s : State) (b : BoundaryIn) (g : HostId) :
    (s.begun b).state.host g = s.host g := State.host_congr s.enterFrame_hosts g

theorem State.begun_timebase (s : State) (b : BoundaryIn) :
    (s.begun b).state.timebase = s.timebase.boundary := s.enterFrame_timebase

theorem State.begun_proposal (s : State) (b : BoundaryIn) :
    (s.begun b).state.proposal = s.proposal := s.enterFrame_proposal

theorem State.lane_begun (s : State) (b : BoundaryIn) (l : LaneId) :
    (s.begun b).state.lane l = (s.lane l).entered s.timebase.f := s.lane_enterFrame_eq l

theorem State.enterFrame_ports (s : State) : s.enterFrame.ports = s.ports := by
  simp [State.enterFrame, State.frameEnd, State.mapLanes]

theorem hush_begun (lanes : ∀ k, ¬ (loud (.lane k) ∧ loud (.check k)) → (s.lane k).restFor g)
    (load : ¬ loud (.load g) → (s.host g).load = none) (run : ¬ loud (.run g) → notRunning s g)
    (record : ¬ loud .agreement → s.proposal = none) : (s.begun b).Hush g loud := by
  refine ⟨fun k quiet => ?_, ?_, ?_, ?_, fun _ => nofun⟩
  · rw [State.lane_begun]
    exact (lanes k quiet).entered _
  · rwa [State.host_begun]
  · rwa [State.host_begun]
  · rwa [State.begun_proposal]

/-- What the reactions and the arrival at position 0 tell a host, in that order (R3, R4). -/
theorem State.told_boundaryTick_of {bs cs : List NoticeBody}
    (told : (s.begun b).state.Tells g bs (s.crossed b))
    (arrives : (s.crossed b).Tells g cs (s.boundaryTick b)) :
    toldAtBoundary s (s.boundaryTick b) g (bs ++ cs) := by
  have whole := (told.trans arrives).port
  have frame : (s.begun b).state.timebase.frame = s.timebase.frame + 1 := by
    rw [State.begun_timebase]
    rfl
  have port : (s.begun b).state.port g = s.port g := by
    change s.enterFrame.port g = s.port g
    rw [State.port, s.enterFrame_ports]
    rfl
  rw [frame, port] at whole
  exact whole

/-- Where no check at position 0 can tell the host anything, it is told there of its due NOTE cues (R115). -/
theorem State.told_boundaryTick {bs : List NoticeBody}
    (told : (s.begun b).state.Tells g bs (s.crossed b))
    (deaf : ∀ l, ((s.crossed b).lane l).check = some 0 → ((s.crossed b).lane l).deafTo g) :
    toldAtBoundary s (s.boundaryTick b) g (bs ++ notesTold (s.boundaryTick b) g) := by
  rw [notesTold_congr (s := s.crossed b) (t := s.boundaryTick b) (State.arrive_hosts _ _)
    (State.arrive_timebase _ _)]
  exact State.told_boundaryTick_of told (State.tells_arrive b.start deaf)

/-- A host with nothing running is told of no cues. -/
theorem notesTold_of_none (active : (s.run g).active = none) : notesTold s g = [] := by
  simp [notesTold, State.dueCues, active]

/-- A boundary at which one reaction alone can tell host `g` something: what stands as that reaction is
made, and after it. -/
theorem State.crossed_loud (r : BoundaryReaction) (listed : r ∈ everyBoundaryReaction)
    (only : ∀ q, loud q → q = r) (hush : (s.begun b).Hush g loud) :
    ∃ (before : List BoundaryReaction) (c : Crossing),
      c = before.foldl Crossing.react (s.begun b) ∧
      (∃ after, (s.enterFrame.setRbk b.rbk).boundaryOrder b.order = before ++ r :: after) ∧
      r ∉ before ∧ c.Hush g loud ∧ c.state.host g = s.host g ∧
      (s.begun b).state.Tells g [] c.state ∧
      ((c.react r).Hush g loud →
        (∀ k, ¬ (loud (.lane k) ∧ loud (.check k)) → ((s.crossed b).lane k).restFor g) ∧
        (s.crossed b).host g = (c.react r).state.host g ∧
        (c.react r).state.Tells g [] (s.crossed b)) := by
  obtain ⟨before, after, order, none, noneAfter, cross⟩ := s.enterFrame.crossBoundary_split b r listed
  obtain ⟨first, host, told⟩ := hush.foldl (rs := before) fun q mem isLoud => none (only q isLoud ▸ mem)
  refine ⟨before, _, rfl, ⟨after, order⟩, none, first, host.trans (s.host_begun b g), told, fun then' => ?_⟩
  obtain ⟨last, hostLast, toldLast⟩ :=
    then'.foldl (rs := after) fun q mem isLoud => noneAfter (only q isLoud ▸ mem)
  have cross : s.crossed b =
      (after.foldl Crossing.react ((before.foldl Crossing.react (s.begun b)).react r)).state := cross
  rw [cross]
  exact ⟨last.lanes, hostLast, toldLast⟩

end Sys2Proof.Machine
end

section
/-!
PROOFS. One host's record over a whole boundary: the load unit's reaction, run control's, and the test of
the book that leaves ACTIVE, in whatever order they come (R69, R71, R98, R100, R103, R107, R108, R155).
-/

namespace Sys2Proof.Machine

open Sys2Proof.Safety

variable {s t : State} {g h : HostId} {r r' : HostRecord} {a y : BookId} {b : BoundaryIn}

/-! ### Run control's reaction in closed form -/

/-- The states of a host's books after run control's reaction to a boundary. -/
def nextStates (run : RunRecord) (st : BookId → BookState) (y : BookId) : BookState :=
  match run.mode, run.action, run.active with
  | .single, .swapTo b, active => if y = b then .active else if active = some y then .ready else st y
  | .single, .halt, some a => if y = a then .ready else st y
  | .alternate, _, some a =>
    if run.turn ≤ 1 ∧ st a.other = .ready then
      if y = a.other then .active else if y = a then .ready else st y
    else st y
  | _, _, _ => st y

/-- The run record after run control's reaction to a boundary. -/
def nextRun (run : RunRecord) (st : BookId → BookState) : RunRecord :=
  match run.mode, run.action, run.active with
  | .single, .swapTo b, _ => { run with active := some b, action := .none }
  | .single, .halt, some _ => { run with active := none, action := .none }
  | .alternate, _, some a =>
    if run.turn ≤ 1 then
      if st a.other = .ready then { run with active := some a.other, turn := run.runOf a.other }
      else { run with turn := run.runOf a }
    else { run with turn := run.turn - 1 }
  | _, _, _ => run

theorem Book.inState_self (x : Book) : x.inState x.state = x := rfl

/-- With nothing pending and no turn run control does nothing. -/
theorem next_of_rest {run : RunRecord} (st : BookId → BookState)
    (notSwap : ∀ b, run.mode = .single → run.action = .swapTo b → False)
    (notTurn : ∀ a, run.mode = .alternate → run.active = some a → False)
    (notHalt : ∀ a, run.mode = .single → run.action = .halt → run.active = some a → False) :
    nextRun run st = run ∧ ∀ y, nextStates run st y = st y := by
  refine ⟨?_, fun y => ?_⟩
  · unfold nextRun
    split
    · exact (notSwap _ ‹_› ‹_›).elim
    · exact (notHalt _ ‹_› ‹_› ‹_›).elim
    · exact (notTurn _ ‹_› ‹_›).elim
    · rfl
  · unfold nextStates
    split
    · exact (notSwap _ ‹_› ‹_›).elim
    · exact (notHalt _ ‹_› ‹_› ‹_›).elim
    · exact (notTurn _ ‹_› ‹_›).elim
    · rfl

theorem HostRecord.runBoundary_closed (r : HostRecord) :
    r.runBoundary.run = nextRun r.run r.states ∧
      ∀ y, r.runBoundary.book y = (r.book y).inState (nextStates r.run r.states y) := by
  unfold HostRecord.runBoundary
  split
  · rename_i b mode action
    simp only [nextRun, nextStates, mode, action]
    refine ⟨by simp [HostRecord.carrySwap, mode], fun y => ?_⟩
    have book : (r.carrySwap b).book y =
        if y = b then (r.leave.book b).inState .active else r.leave.book y := r.leave.book_move b y _
    rw [book, HostRecord.leave_book r y, HostRecord.leave_book r b]
    by_cases same : y = b
    · subst same
      rw [if_pos rfl, if_pos rfl]
      split <;> rfl
    · rw [if_neg same, if_neg same]
      split
      · rfl
      · exact (Book.inState_self _).symm
  · rename_i a mode action active
    simp only [nextRun, nextStates, mode, action, active]
    refine ⟨by simp [HostRecord.carryHalt, mode], fun y => ?_⟩
    have book : (r.carryHalt a).book y = if y = a then (r.book a).inState .ready else r.book y :=
      r.book_move a y _
    rw [book]
    split
    · rename_i same
      rw [same]
    · exact (Book.inState_self _).symm
  · rename_i a mode active
    simp only [nextRun, nextStates, mode, active]
    by_cases turn : r.run.turn ≤ 1
    · rw [if_pos turn]
      unfold HostRecord.takeTurn
      by_cases ready : (r.book a.other).state = .ready
      · have ready' : r.states a.other = .ready := ready
        rw [if_pos ready]
        simp only [turn, ready', if_true, and_self]
        refine ⟨by simp [mode], fun y => ?_⟩
        have book : (((r.move a .ready).move a.other .active).setRun
            { r.run with active := some a.other, turn := r.run.runOf a.other }).book y =
            if y = a.other then ((r.move a .ready).book a.other).inState .active
            else (r.move a .ready).book y := (r.move a .ready).book_move _ y _
        rw [book, HostRecord.book_move _ a y, HostRecord.book_move _ a a.other]
        by_cases isOther : y = a.other
        · rw [if_pos isOther, if_pos isOther, if_neg (BookId.other_ne a), isOther]
        · by_cases isA : y = a
          · rw [if_neg isOther, if_neg isOther, if_pos isA, if_pos isA, isA]
          · rw [if_neg isOther, if_neg isOther, if_neg isA, if_neg isA]
            exact (Book.inState_self _).symm
      · have ready' : ¬ r.states a.other = .ready := ready
        rw [if_neg ready]
        simp only [turn, ready', if_true, if_false, and_false]
        exact ⟨by simp [mode, active], fun y => (Book.inState_self _).symm⟩
    · rw [if_neg turn]
      simp only [turn, if_false, false_and]
      exact ⟨by simp, fun y => (Book.inState_self _).symm⟩
  · rename_i notSwap notTurn notHalt
    obtain ⟨run, states⟩ := next_of_rest r.states notSwap notTurn notHalt
    rw [run]
    exact ⟨rfl, fun y => by rw [states]; exact (Book.inState_self _).symm⟩

theorem HostRecord.runBoundary_run (r : HostRecord) : r.runBoundary.run = nextRun r.run r.states :=
  r.runBoundary_closed.1

theorem HostRecord.runBoundary_states (r : HostRecord) (y : BookId) :
    r.runBoundary.states y = nextStates r.run r.states y :=
  congrArg Book.state (r.runBoundary_closed.2 y)

theorem HostRecord.leaver_eq (r : HostRecord) :
    r.leaver = if (nextRun r.run r.states).active = r.run.active then none else r.run.active := by
  unfold HostRecord.leaver
  rw [HostRecord.runBoundary_run]
  cases active : r.run.active with
  | none => simp
  | some a => simp

/-- A book that leaves ACTIVE is READY (R98). -/
theorem HostRecord.states_leaver (leaves : r.leaver = some a) : r.runBoundary.states a = .ready := by
  rw [HostRecord.leaver_eq] at leaves
  split at leaves
  · cases leaves
  · rename_i moved
    rw [leaves] at moved
    rw [HostRecord.runBoundary_states]
    revert moved
    unfold nextRun nextStates
    cases mode : r.run.mode with
    | single =>
      cases action : r.run.action with
      | none => simp [leaves]
      | halt => simp [leaves]
      | swapTo b =>
        intro moved
        have other : a ≠ b := fun same => moved (by simp [same])
        simp [other, leaves]
    | alternate =>
      by_cases turn : r.run.turn ≤ 1
      · by_cases ready : r.states a.other = .ready
        · have other : a ≠ a.other := (BookId.other_ne a).symm
          simp [leaves, turn, ready, other]
        · simp [leaves, turn, ready]
      · simp [leaves, turn]

theorem HostRecord.demote_load (r : HostRecord) (b : BookId) : (r.demote b).load = r.load := by
  rw [HostRecord.demote, HostRecord.setRun_load, HostRecord.setBook_load]

/-! ### The record over a boundary -/

/-- While the reactions to a boundary are taken, with no OPEN proposal: host `h` has the run record of `R`,
the books of `R` but for those of `leaver`, which is tested by the agreement unit, and those of a load. -/
structure Crossing.Follows (h : HostId) (R : HostRecord) (leaver : Option BookId) (free : BookId → Prop)
    (f : Nat) (c : Crossing) : Prop where
  run : (c.state.host h).run = R.run
  load : ∀ y, free y → (c.state.host h).load.map (·.book) ≠ some y
  states : ∀ y, leaver ≠ some y → (c.state.host h).states y = R.states y
  books : ∀ y, free y → (c.state.host h).book y =
    if leaver = some y ∧ c.agreementDone = true ∧ (R.book y).fits f = false then (R.book y).demoted
    else R.book y
  left : c.agreementDone = false → ∀ y, (h, y) ∈ c.left ↔ leaver = some y
  ready : ∀ y, leaver = some y → R.states y = .ready
  length : c.state.timebase.f = f
  agreed : ∀ p ∈ c.state.proposal, p.state = .agreed
  taken : c.agreementDone = true → c.state.proposal = none

namespace Crossing

variable {c d : Crossing} {R : HostRecord} {leaver : Option BookId} {free : BookId → Prop} {f : Nat}
  {q : BoundaryReaction}

theorem Follows.of_same (now : c.Follows h R leaver free f) (host : d.state.host h = c.state.host h)
    (left : ∀ y, (h, y) ∈ d.left ↔ (h, y) ∈ c.left) (same : c.SameAgreement d) :
    d.Follows h R leaver free f where
  run := by rw [host]; exact now.run
  load := by rw [host]; exact now.load
  states := by rw [host]; exact now.states
  books := by rw [host, same.done]; exact now.books
  left := by
    rw [same.done]
    exact fun waits y => (left y).trans (now.left waits y)
  ready := now.ready
  length := (congrArg Timebase.f same.timebase).trans now.length
  agreed := by rw [same.proposal]; exact now.agreed
  taken := by rw [same.done, same.proposal]; exact now.taken

/-- The load unit touches the cues of its target alone (R69, R71). -/
theorem loadBoundary_like (r : HostRecord) :
    r.loadBoundary.run = r.run ∧ (∀ y, r.loadBoundary.states y = r.states y) ∧
      (∀ y, r.load.map (·.book) ≠ some y → r.loadBoundary.load.map (·.book) ≠ some y) ∧
      ∀ y, r.load.map (·.book) ≠ some y → r.loadBoundary.book y = r.book y := by
  unfold HostRecord.loadBoundary
  cases load : r.load with
  | none => exact ⟨rfl, fun _ => rfl, by simp [load], fun _ _ => rfl⟩
  | some ld =>
    dsimp only
    split
    · exact ⟨rfl, fun _ => rfl, fun _ other => other, fun _ _ => rfl⟩
    · have book (y : BookId) : (r.rollBack ld).book y = if y = ld.book then
          { r.book ld.book with cues := (r.book ld.book).cues.take ld.lengthAtOpen } else r.book y :=
        r.book_setBook ld.book y _
      refine ⟨HostRecord.setBook_run _ _ _, fun y => ?_, fun _ _ => nofun, fun y other => ?_⟩
      · rw [HostRecord.states, book]
        split
        · rename_i same
          rw [same]
          rfl
        · rfl
      · have other : y ≠ ld.book := fun same => other (by simp [same])
        rw [book, if_neg other]

theorem Follows.loads (now : c.Follows h R leaver free f) : (c.react (.load h)).Follows h R leaver free f := by
  have host : (c.react (.load h)).state.host h = (c.state.host h).loadBoundary := by
    rw [Crossing.react, State.host_loadBoundary, if_pos rfl]
  have same := c.react_sameAgreement (r := .load h) nofun
  obtain ⟨run, states, load, books⟩ := loadBoundary_like (c.state.host h)
  refine ⟨?_, ?_, ?_, ?_, now.left, now.ready, (congrArg Timebase.f same.timebase).trans now.length, ?_, ?_⟩
  · rw [host, run, now.run]
  · rw [host]
    exact fun y ok => load y (now.load y ok)
  · rw [host]
    exact fun y other => (states y).trans (now.states y other)
  · rw [host, same.done]
    exact fun y ok => (books y (now.load y ok)).trans (now.books y ok)
  · rw [same.proposal]
    exact now.agreed
  · rw [same.done, same.proposal]
    exact now.taken

/-- With no OPEN proposal the agreement unit's own step clears the record and agrees to nothing. -/
theorem proposalBoundary_of_agreed (agreed : ∀ p ∈ s.proposal, p.state = .agreed) :
    s.proposalBoundary.2 = none ∧ s.proposalBoundary.1.proposal = none ∧
      s.proposalBoundary.1.timebase = s.timebase := by
  unfold State.proposalBoundary
  cases record : s.proposal with
  | none => exact ⟨rfl, record, rfl⟩
  | some p =>
    have state : p.state = .agreed := agreed p record
    simp [state]

theorem demoteIf_ready (r : HostRecord) {test : Book → Bool}
    (onlyReady : ∀ bk, test bk = true → bk.state = .ready) (y : BookId) :
    (r.demoteIf test y).run = r.run ∧ (r.demoteIf test y).load = r.load := by
  unfold HostRecord.demoteIf
  split
  · rename_i chosen
    have state := onlyReady _ chosen
    simp [HostRecord.demote, state]
  · exact ⟨rfl, rfl⟩

theorem demoteBoth_ready (r : HostRecord) {test : BookId → Book → Bool}
    (onlyReady : ∀ y bk, test y bk = true → bk.state = .ready) :
    (r.demoteBoth test).run = r.run ∧ (r.demoteBoth test).load = r.load := by
  obtain ⟨run, load⟩ := demoteIf_ready r (onlyReady .A) .A
  obtain ⟨run', load'⟩ := demoteIf_ready (r.demoteIf (test .A) .A) (onlyReady .B) .B
  exact ⟨run'.trans run, load'.trans load⟩

theorem Follows.agreement (now : c.Follows h R leaver free f) (waits : c.agreementDone = false) :
    (c.react .agreement).Follows h R leaver free f := by
  obtain ⟨noLength, cleared, timebase⟩ := proposalBoundary_of_agreed now.agreed
  have lengths : c.state.proposalBoundary.1.lengthsRequired = [f] := by
    rw [State.lengthsRequired_of_none cleared, timebase, now.length]
  have host : (c.react .agreement).state.host h = (c.state.host h).demoteBoth fun y bk =>
      c.left.contains (h, y) && c.state.proposalBoundary.1.leaverMisfit bk := by
    rw [Crossing.react, State.agreementBoundary]
    dsimp only
    rw [State.host_demoteWhere, State.host_congr (State.proposalBoundary_hosts _), noLength]
    simp only [Bool.false_or]
  obtain ⟨run, load⟩ := demoteBoth_ready (c.state.host h)
    (test := fun y bk => c.left.contains (h, y) && c.state.proposalBoundary.1.leaverMisfit bk)
    fun y bk chosen => State.ready_of_leaverMisfit (Bool.and_eq_true_iff.1 chosen).2
  have record : (c.react .agreement).state.proposal = none := by
    simpa [Crossing.react, State.agreementBoundary] using cleared
  refine ⟨?_, ?_, fun y other => ?_, fun y ok => ?_, nofun, now.ready, ?_, by simp [record], fun _ => record⟩
  · rw [host, run, now.run]
  · rw [host, load]
    exact now.load
  · have away : ¬ (h, y) ∈ c.left := fun mem => other ((now.left waits y).1 mem)
    rw [host, HostRecord.states, HostRecord.book_demoteBoth]
    simp only [List.contains_eq_mem, away, decide_false, Bool.false_and, Bool.false_eq_true, if_false]
    exact now.states y other
  · have book : (c.state.host h).book y = R.book y := by
      rw [now.books y ok, if_neg (by simp [waits])]
    rw [host, HostRecord.book_demoteBoth, book]
    by_cases leaves : leaver = some y
    · have mem : (h, y) ∈ c.left := (now.left waits y).2 leaves
      have ready : (R.book y).state = .ready := now.ready y leaves
      simp [mem, leaves, State.leaverMisfit, ready, lengths, Crossing.react]
    · have away : ¬ (h, y) ∈ c.left := fun mem => leaves ((now.left waits y).1 mem)
      simp [away, leaves]
  · simpa [Crossing.react, State.agreementBoundary, timebase] using now.length

/-- Every reaction but run control's own for the host. -/
theorem Follows.react (now : c.Follows h R leaver free f) (other : q ≠ .run h)
    (once : q = .agreement → c.agreementDone = false) : (c.react q).Follows h R leaver free f := by
  cases q with
  | lane l =>
    exact now.of_same (by simp [Crossing.react, State.host]) (fun _ => Iff.rfl)
      (c.react_sameAgreement nofun)
  | check l =>
    exact now.of_same (by simp [Crossing.react, State.host]) (fun _ => Iff.rfl)
      (c.react_sameAgreement nofun)
  | load k =>
    by_cases own : k = h
    · subst own
      exact now.loads
    · exact now.of_same (c.react_load_other own) (fun _ => Iff.rfl) (c.react_sameAgreement nofun)
  | run k =>
    have away : k ≠ h := fun same => other (by rw [same])
    obtain ⟨host, -, left⟩ := c.run_other away
    exact now.of_same host left (c.run_sameAgreement k)
  | agreement => exact now.agreement (once rfl)

theorem Follows.foldl {rs : List BoundaryReaction} (now : c.Follows h R leaver free f)
    (other : .run h ∉ rs) (nodup : rs.Nodup) (once : c.agreementDone = true → .agreement ∉ rs) :
    (rs.foldl Crossing.react c).Follows h R leaver free f := by
  induction rs generalizing c with
  | nil => exact now
  | cons q rs ih =>
    rw [List.mem_cons, not_or] at other
    obtain ⟨fresh, nodup⟩ := List.nodup_cons.1 nodup
    refine ih (now.react (Ne.symm other.1) fun isAgreement => ?_) other.2 nodup fun done => ?_
    · by_contra done
      exact once (by simpa using done) (by simp [isAgreement])
    · by_cases isAgreement : q = .agreement
      · exact isAgreement ▸ fresh
      · rw [(c.react_sameAgreement isAgreement).done] at done
        exact fun mem => once done (List.mem_cons_of_mem _ mem)

/-- Two records with the same run record and book states take the same step. -/
theorem runBoundary_like (run : r'.run = r.run) (states : ∀ y, r'.states y = r.states y) :
    r'.runBoundary.run = r.runBoundary.run ∧ r'.leaver = r.leaver ∧
      (∀ y, r'.runBoundary.states y = r.runBoundary.states y) ∧
      ∀ y, r'.book y = r.book y → r'.runBoundary.book y = r.runBoundary.book y := by
  have same : r'.states = r.states := funext states
  refine ⟨?_, ?_, fun y => ?_, fun y book => ?_⟩
  · rw [HostRecord.runBoundary_run, HostRecord.runBoundary_run, run, same]
  · rw [HostRecord.leaver_eq, HostRecord.leaver_eq, run, same]
  · rw [HostRecord.runBoundary_states, HostRecord.runBoundary_states, run, same]
  · rw [r'.runBoundary_closed.2, r.runBoundary_closed.2, run, same, book]

/-- Run control's own reaction: the leaver is tested at once where the agreement unit has reacted
(R155). -/
theorem Follows.runs (now : c.Follows h r none free f) :
    (c.run h).Follows h r.runBoundary r.leaver free f := by
  obtain ⟨run, leaver, states, books⟩ := runBoundary_like now.run fun y => now.states y nofun
  have book (y : BookId) (ok : free y) : (c.state.host h).book y = r.book y := by
    rw [now.books y ok, if_neg (by simp)]
  have ran : (c.state.runBoundary h).host h = (c.state.host h).runBoundary := by
    rw [State.host_runBoundary, if_pos rfl]
  have same := c.run_sameAgreement h
  have length := (congrArg Timebase.f same.timebase).trans now.length
  have ready (y : BookId) (leaves : r.leaver = some y) : r.runBoundary.states y = .ready :=
    HostRecord.states_leaver leaves
  have rest {d : Crossing} (result : c.run h = d) (host : d.state.host h = (c.state.host h).runBoundary)
      (tested : ∀ y, r.leaver = some y → free y → d.agreementDone = true →
        (r.runBoundary.book y).fits f = true)
      (left : d.agreementDone = false → ∀ y, (h, y) ∈ d.left ↔ r.leaver = some y) :
      d.Follows h r.runBoundary r.leaver free f := by
    subst result
    refine ⟨by rw [host, run], by rw [host, HostRecord.runBoundary_load]; exact now.load,
      fun y _ => by rw [host]; exact states y, fun y ok => ?_, left, ready, length,
      by rw [same.proposal]; exact now.agreed, by rw [same.done, same.proposal]; exact now.taken⟩
    rw [host, books y (book y ok), if_neg]
    rintro ⟨leaves, done, misfit⟩
    rw [tested y leaves ok done] at misfit
    cases misfit
  cases leaves : r.leaver with
  | none =>
    rw [leaves] at leaver
    have result : c.run h = { c with state := c.state.runBoundary h } := by
      simp only [Crossing.run, State.leavesActive_eq, leaver]
    have whole := rest (d := c.run h) rfl (by rw [result, ran]) (by simp [leaves]) (by
      rw [result, leaves]
      exact now.left)
    rwa [leaves] at whole
  | some a =>
    rw [leaves] at leaver
    cases done : c.agreementDone with
    | false =>
      have result : c.run h =
          { c with state := c.state.runBoundary h, left := c.left ++ [(h, a)] } := by
        simp [Crossing.run, State.leavesActive_eq, leaver, done]
      have whole := rest (d := c.run h) rfl (by rw [result, ran]) (by simp [result, done]) (by
        rw [result]
        intro _ y
        simp [now.left done y, leaves, eq_comm])
      rwa [leaves] at whole
    | true =>
      have lengths : (c.state.runBoundary h).lengthsRequired = [f] := by
        rw [State.lengthsRequired_of_none (by simpa using now.taken done)]
        simpa using now.length
      have readyA : ((c.state.host h).runBoundary.book a).state = .ready :=
        (states a).trans (ready a leaves)
      have test : (c.state.runBoundary h).leaverMisfit ((c.state.host h).runBoundary.book a) =
          !((c.state.host h).runBoundary.book a).fits f := by
        simp [State.leaverMisfit, readyA, lengths]
      have host : (c.run h).state.host h =
          if ((c.state.host h).runBoundary.book a).fits f = true then (c.state.host h).runBoundary
          else (c.state.host h).runBoundary.demote a := by
        have book : (c.state.runBoundary h).book h a = (c.state.host h).runBoundary.book a := by
          rw [State.book, ran]
        simp only [Crossing.run, State.leavesActive_eq, leaver, done, if_true, book, test]
        by_cases fits : ((c.state.host h).runBoundary.book a).fits f = true
        · simp [fits, ran]
        · simp [fits, State.host_demote_eq, ran]
      have kept : ((c.run h).state.host h).run = r.runBoundary.run ∧
          ((c.run h).state.host h).load = (c.state.host h).load ∧
            ∀ y, ((c.run h).state.host h).book y =
              if y = a ∧ ((c.state.host h).runBoundary.book a).fits f = false then
                ((c.state.host h).runBoundary.book a).demoted
              else (c.state.host h).runBoundary.book y := by
        rw [host]
        split
        · rename_i fits
          exact ⟨run, HostRecord.runBoundary_load _, fun y => by simp [fits]⟩
        · rename_i misfit
          refine ⟨?_, (HostRecord.demote_load _ a).trans (HostRecord.runBoundary_load _), fun y => ?_⟩
          · simp [HostRecord.demote, readyA, run]
          · simp [HostRecord.book_demote, misfit]
      obtain ⟨keptRun, keptLoad, keptBooks⟩ := kept
      refine ⟨keptRun, by rw [keptLoad]; exact now.load, fun y other => ?_, fun y ok => ?_, ?_,
        fun y same => ready y (leaves.trans same), length, by rw [same.proposal]; exact now.agreed,
        by rw [same.done, same.proposal]; exact now.taken⟩
      · have other : y ≠ a := fun isA => other (by rw [isA])
        rw [HostRecord.states, keptBooks, if_neg (by simp [other])]
        exact states y
      · have doneAfter : (c.run h).agreementDone = true := same.done.trans done
        rw [keptBooks, doneAfter]
        by_cases isA : y = a
        · subst isA
          rw [books y (book y ok)]
          simp
        · simp [isA, Ne.symm isA, books y (book y ok)]
      · rw [same.done, done]
        nofun

end Crossing

theorem Crossing.foldl_done {rs : List BoundaryReaction} (c : Crossing) (mem : .agreement ∈ rs) :
    (rs.foldl Crossing.react c).agreementDone = true := by
  obtain ⟨before, after, rfl⟩ := List.append_of_mem mem
  rw [List.foldl_append, List.foldl_cons]
  refine Crossing.foldl_react_keeps (P := fun d => d.agreementDone = true) (fun d q _ done => ?_) _ rfl
  by_cases isAgreement : q = .agreement
  · rw [isAgreement]
    rfl
  · exact (d.react_sameAgreement isAgreement).done.trans done

theorem run_mem_everyBoundaryReaction (h : HostId) : .run h ∈ everyBoundaryReaction := by
  simp [everyBoundaryReaction]

theorem load_mem_everyBoundaryReaction (h : HostId) : .load h ∈ everyBoundaryReaction := by
  simp [everyBoundaryReaction]

/-- One host's record after a boundary with no OPEN proposal: run control's step, and the book that leaves
ACTIVE tested against the F that begins (R155). -/
theorem State.host_crossed (s : State) (b : BoundaryIn) (h : HostId)
    (agreed : ∀ p ∈ s.proposal, p.state = .agreed) :
    ((s.crossed b).host h).run = (s.host h).runBoundary.run ∧
      (∀ y, (s.host h).leaver ≠ some y →
        ((s.crossed b).host h).states y = (s.host h).runBoundary.states y) ∧
      ∀ y, (s.host h).load.map (·.book) ≠ some y →
        (s.crossed b).book h y =
          if (s.host h).leaver = some y ∧ ((s.host h).runBoundary.book y).fits (nextF s) = false then
            ((s.host h).runBoundary.book y).demoted
          else (s.host h).runBoundary.book y := by
  have nodup := (s.enterFrame.setRbk b.rbk).nodup_boundaryOrder b.order
  have mem := ((s.enterFrame.setRbk b.rbk).mem_boundaryOrder b.order .agreement).2
    agreement_mem_everyBoundaryReaction
  obtain ⟨before, after, order, fresh, freshAfter, cross⟩ :=
    s.enterFrame.crossBoundary_split b (.run h) (run_mem_everyBoundaryReaction h)
  rw [order] at nodup mem
  obtain ⟨nodupBefore, nodupRest, apart⟩ := List.nodup_append.1 nodup
  have begun : (s.begun b).Follows h (s.host h) none (fun y => (s.host h).load.map (·.book) ≠ some y)
      (nextF s) := by
    refine ⟨by rw [State.host_begun], by rw [State.host_begun]; exact fun _ ok => ok,
      fun _ _ => by rw [State.host_begun], fun _ _ => by rw [State.host_begun, if_neg (by simp)],
      fun _ _ => by simp [State.begun], nofun, congrArg Timebase.f (s.begun_timebase b), ?_, nofun⟩
    rw [State.begun_proposal]
    exact agreed
  have first := begun.foldl (rs := before) fresh nodupBefore nofun
  have ran := first.runs.foldl (rs := after) freshAfter (List.nodup_cons.1 nodupRest).2 (by
    rw [((before.foldl Crossing.react (s.begun b)).run_sameAgreement h).done]
    intro done again
    have inBefore : .agreement ∈ before := by
      by_contra absent
      rw [(Crossing.foldl_sameAgreement absent (s.begun b)).done] at done
      cases done
    exact apart _ inBefore _ (List.mem_cons_of_mem _ again) rfl)
  have result : (s.crossed b) =
      (after.foldl Crossing.react ((before.foldl Crossing.react (s.begun b)).run h)).state := cross
  have done : (after.foldl Crossing.react
      ((before.foldl Crossing.react (s.begun b)).run h)).agreementDone = true := by
    have whole := Crossing.foldl_done (s.begun b) mem
    rwa [List.foldl_append, List.foldl_cons] at whole
  rw [result]
  refine ⟨ran.run, ran.states, fun y ok => (ran.books y ok).trans ?_⟩
  rw [done]
  simp

end Sys2Proof.Machine
end

section
/-!
PROOFS. What a boundary leaves of one host's load, slots and cues, and what the load unit and run control
tell it (R69, R71, R100, R103, R107, R108).
-/

namespace Sys2Proof.Machine

open Sys2Proof.Safety

variable {s t : State} {g h : HostId} {r r' : HostRecord} {a : BookId} {b : BoundaryIn}

/-! ### Loads, slots and cues over a boundary -/

/-- `r'` has the load, the slot count and the cues of `r`. -/
structure HostRecord.SameStore (r r' : HostRecord) : Prop where
  load : r'.load = r.load
  slots : r'.slots = r.slots
  cues : ∀ b, (r'.book b).cues = (r.book b).cues

namespace HostRecord

theorem SameStore.trans {r'' : HostRecord} (first : r.SameStore r') (second : r'.SameStore r'') :
    r.SameStore r'' :=
  ⟨second.load.trans first.load, second.slots.trans first.slots,
    fun b => (second.cues b).trans (first.cues b)⟩

theorem SameStore.refl (r : HostRecord) : r.SameStore r := ⟨rfl, rfl, fun _ => rfl⟩

theorem sameStore_runBoundary (r : HostRecord) : r.SameStore r.runBoundary :=
  ⟨r.runBoundary_load, r.runBoundary_slots, r.runBoundary_cues⟩

theorem sameStore_demote (r : HostRecord) (b : BookId) : r.SameStore (r.demote b) :=
  ⟨r.demote_load b, by rw [HostRecord.demote, HostRecord.setRun_slots, HostRecord.setBook_slots],
    r.demote_cues b⟩

theorem sameStore_demoteBoth (r : HostRecord) (test : BookId → Book → Bool) :
    r.SameStore (r.demoteBoth test) := by
  have one (r : HostRecord) (test : Book → Bool) (b : BookId) : r.SameStore (r.demoteIf test b) := by
    unfold HostRecord.demoteIf
    split
    · exact r.sameStore_demote b
    · exact .refl r
  exact (one r _ _).trans (one _ _ _)

/-- The load unit reads nothing but the store. -/
theorem SameStore.loadBoundary (same : r.SameStore r') : r.loadBoundary.SameStore r'.loadBoundary := by
  unfold HostRecord.loadBoundary
  rw [same.load]
  cases load : r.load with
  | none => exact same
  | some ld =>
    dsimp only
    split
    · exact ⟨rfl, same.slots, same.cues⟩
    · refine ⟨rfl, congrArg (· - ld.declared) same.slots, fun b => ?_⟩
      have book (x : HostRecord) : (x.rollBack ld).book b = if b = ld.book then
          { x.book ld.book with cues := (x.book ld.book).cues.take ld.lengthAtOpen } else x.book b :=
        x.book_setBook ld.book b _
      rw [book, book]
      split
      · exact congrArg (List.take ld.lengthAtOpen) (same.cues ld.book)
      · exact same.cues b

end HostRecord

/-- Every reaction but the load unit's own keeps the store of a host. -/
theorem Crossing.sameStore_react (c : Crossing) {q : BoundaryReaction} (other : q ≠ .load g) :
    (c.state.host g).SameStore ((c.react q).state.host g) := by
  cases q with
  | lane l => simp [Crossing.react, State.host, HostRecord.SameStore.refl]
  | check l => simp [Crossing.react, State.host, HostRecord.SameStore.refl]
  | load h =>
    rw [c.react_load_other fun same => other (by rw [same])]
    exact .refl _
  | run h =>
    by_cases own : h = g
    · subst own
      have ran : (c.state.host h).SameStore ((c.state.runBoundary h).host h) := by
        rw [State.host_runBoundary, if_pos rfl]
        exact HostRecord.sameStore_runBoundary _
      simp only [Crossing.react, Crossing.run]
      split
      · exact ran
      · split
        · dsimp only
          split
          · rw [State.host_demote_eq, if_pos rfl]
            exact ran.trans (HostRecord.sameStore_demote _ _)
          · exact ran
        · exact ran
    · have host : (c.react (.run h)).state.host g = c.state.host g := (c.run_other own).1
      rw [host]
      exact .refl _
  | agreement =>
    rw [Crossing.react, State.agreementBoundary]
    dsimp only
    rw [State.host_demoteWhere, State.host_congr (State.proposalBoundary_hosts _)]
    exact HostRecord.sameStore_demoteBoth _ _

theorem Crossing.sameStore_foldl {rs : List BoundaryReaction} (c : Crossing) (fresh : .load g ∉ rs) :
    (c.state.host g).SameStore ((rs.foldl Crossing.react c).state.host g) :=
  Crossing.foldl_react_keeps (P := fun d => (c.state.host g).SameStore (d.state.host g))
    (fun d _ mem same => same.trans (d.sameStore_react fun h => fresh (h ▸ mem))) c (.refl _)

/-- A host's load, slot count and cues after a boundary are what the load unit leaves (R71). -/
theorem State.sameStore_crossed (s : State) (b : BoundaryIn) (g : HostId) :
    (s.host g).loadBoundary.SameStore ((s.crossed b).host g) := by
  obtain ⟨before, after, -, fresh, freshAfter, cross⟩ :=
    s.enterFrame.crossBoundary_split b (.load g) (load_mem_everyBoundaryReaction g)
  have result : s.crossed b =
      (after.foldl Crossing.react
        ((before.foldl Crossing.react (s.begun b)).react (.load g))).state := cross
  have first := (s.begun b).sameStore_foldl fresh
  rw [State.host_begun] at first
  have own : ((before.foldl Crossing.react (s.begun b)).react (.load g)).state.host g =
      ((before.foldl Crossing.react (s.begun b)).state.host g).loadBoundary := by
    rw [Crossing.react, State.host_loadBoundary, if_pos rfl]
  have last := ((before.foldl Crossing.react (s.begun b)).react (.load g)).sameStore_foldl freshAfter
  rw [own] at last
  rw [result]
  exact first.loadBoundary.trans last

theorem State.boundaryTick_hosts (s : State) (b : BoundaryIn) :
    (s.boundaryTick b).hosts = (s.crossed b).hosts := State.arrive_hosts _ _

/-! ### What one host is told -/

/-- What the load unit tells the owner of a load that times out (R71). -/
theorem State.tells_loadTimeout {ld : Load} (load : (s.host h).load = some ld)
    (late : ¬ ld.idle + 1 < idleLimit) :
    s.Tells h [.loadTimeout ld.book ld.received] (s.loadBoundary h) := by
  simp only [State.loadBoundary, load, if_neg late]
  have told := State.tells_then_post (s := s) (u := s.setHost h ((s.host h).rollBack ld)) rfl rfl h
    (.loadTimeout ld.book ld.received) h
  rwa [if_pos rfl] at told

namespace Crossing

variable {c : Crossing} {loud : BoundaryReaction → Prop}

theorem Hush.loads (hush : c.Hush h loud) (isLoud : loud (.load h)) (quiet : ¬ loud (.run h)) :
    (c.react (.load h)).Hush h loud := by
  have host : (c.react (.load h)).state.host h = (c.state.host h).loadBoundary := by
    rw [Crossing.react, State.host_loadBoundary, if_pos rfl]
  refine ⟨fun k off => ?_, fun notLoud => absurd isLoud notLoud, fun off => ?_, fun off => ?_,
    fun b mem => absurd (hush.left b mem).1 quiet⟩
  · rw [Crossing.lane_react_other (r := .load h) c (by simp) (by simp)]
    exact hush.lanes k off
  · rw [host, (loadBoundary_like _).1]
    exact hush.run off
  · rw [(c.react_sameAgreement (r := .load h) nofun).proposal]
    exact hush.record off

/-- Run control's own reaction, where the book that leaves ACTIVE fits (R155). -/
theorem Hush.runs (hush : c.Hush h loud) (isLoud : loud (.run h)) (quiet : ¬ loud .agreement)
    (fits : ∀ a, (c.state.host h).leaver = some a →
      (c.state.book h a).fits c.state.timebase.f = true) :
    (c.run h).Hush h loud ∧ (c.run h).state.host h = (c.state.host h).runBoundary ∧
      c.state.Tells h (c.state.host h).runTold (c.run h).state := by
  have ran : (c.state.runBoundary h).host h = (c.state.host h).runBoundary := by
    rw [State.host_runBoundary, if_pos rfl]
  have told := c.state.tells_runBoundary h h
  rw [if_pos rfl] at told
  have cues (a : BookId) : ((c.state.host h).runBoundary.book a).cues = (c.state.book h a).cues :=
    HostRecord.runBoundary_cues _ a
  have lengths : (c.state.runBoundary h).lengthsRequired = [c.state.timebase.f] := by
    rw [State.lengthsRequired_of_none (by simpa using hush.record quiet)]
    simp
  have state : (c.run h).state = c.state.runBoundary h := by
    simp only [Crossing.run, State.leavesActive_eq]
    split
    · rfl
    · rename_i a leaves
      have ok : ((c.state.runBoundary h).book h a).fits c.state.timebase.f = true := by
        rw [State.book, ran]
        exact Book.fits_of_subset (by rw [cues a]; exact List.Subset.refl _) (fits a leaves)
      have passes : (c.state.runBoundary h).leaverMisfit ((c.state.runBoundary h).book h a) = false := by
        simp [State.leaverMisfit, lengths, ok]
      split
      · rw [if_neg (by simp [passes])]
      · rfl
  have left : ∀ b, (h, b) ∈ (c.run h).left → (h, b) ∈ c.left ∨ (c.state.host h).leaver = some b := by
    intro b
    simp only [Crossing.run, State.leavesActive_eq]
    split
    · exact .inl
    · rename_i a leaves
      split
      · exact .inl
      · simp only [List.mem_append, List.mem_singleton, Prod.mk.injEq, true_and]
        exact Or.imp_right fun same => by rw [leaves, same]
  refine ⟨⟨fun k off => ?_, fun off => ?_, fun off => absurd isLoud off, fun off => ?_, fun b mem => ?_⟩,
    by rw [state, ran], by rw [state]; exact told⟩
  · rw [State.lane_congr (State.run_react_lanes c h)]
    exact hush.lanes k off
  · rw [state, ran, HostRecord.runBoundary_load]
    exact hush.load off
  · rw [(c.run_sameAgreement h).proposal]
    exact hush.record off
  · refine ⟨isLoud, ?_⟩
    rw [state, State.book, ran, State.runBoundary_timebase]
    refine Book.fits_of_subset (x := c.state.book h b) (by rw [cues b]; exact List.Subset.refl _) ?_
    rcases left b mem with old | leaves
    · exact (hush.left b old).2
    · exact fits b leaves

end Crossing

/-- What a host with no load is told at a boundary by run control, with no proposal, and where the book
that leaves ACTIVE fits. -/
theorem State.told_run (b : BoundaryIn) (noProposal : s.proposal = none)
    (noLoad : (s.host h).load = none) (quiet : quietLanes s h)
    (fits : ∀ a, (s.host h).leaver = some a → (s.book h a).fits (nextF s) = true) :
    (s.crossed b).host h = (s.host h).runBoundary ∧
      toldAtBoundary s (s.boundaryTick b) h
        ((s.host h).runTold ++ notesTold (s.boundaryTick b) h) := by
  have begun : (s.begun b).Hush h (· = .run h) :=
    hush_begun (fun k _ => quiet k) (fun _ => noLoad) (fun off => absurd rfl off) fun _ => noProposal
  obtain ⟨before, c, rfl, -, -, hush, host, told, rest⟩ :=
    State.crossed_loud (.run h) (run_mem_everyBoundaryReaction h) (fun _ => id) begun
  have length : (before.foldl Crossing.react (s.begun b)).state.timebase.f = nextF s := by
    have clock := congrArg Timebase.f (Crossing.foldl_clock before (s.begun b))
    rw [State.begun_timebase] at clock
    exact clock
  obtain ⟨hushRun, hostRun, toldRun⟩ := hush.runs rfl (by simp) (by
    intro a leaves
    rw [host] at leaves
    rw [State.book, host, length]
    exact fits a leaves)
  obtain ⟨lanes, hostLast, toldLast⟩ := rest hushRun
  rw [host] at hostRun toldRun
  exact ⟨hostLast.trans hostRun, State.told_boundaryTick ((told.quiet toldRun).then_quiet toldLast)
    fun k _ => (lanes k (by simp)).deaf⟩

end Sys2Proof.Machine
end

section
/-!
PROOFS. O39, O42 and O43: a load that times out, run control at a boundary, and an alternation turn (R71,
R98, R100, R103, R107, R108, R115, R155).
-/

namespace Sys2Proof.Machine

open Sys2Proof.Safety

variable {s t : State} {g h : HostId} {r r' : HostRecord} {a : BookId} {b : BoundaryIn}

/-! ### Loads -/

theorem State.host_boundaryTick (s : State) (b : BoundaryIn) (h : HostId) :
    (s.boundaryTick b).host h = (s.crossed b).host h := State.host_congr (s.boundaryTick_hosts b) h

theorem State.enterFrame_jobs (s : State) : s.enterFrame.jobs = s.jobs := by
  simp [State.enterFrame, State.frameEnd, State.mapLanes]

theorem State.boundaryTick_jobs (s : State) (b : BoundaryIn) : (s.boundaryTick b).jobs = s.jobs :=
  (State.arrive_jobs _ _).trans ((State.crossBoundary_jobs _ b).trans s.enterFrame_jobs)

theorem State.boundaryTick_clock (s : State) (b : BoundaryIn) :
    (s.boundaryTick b).timebase.f = nextF s ∧ (s.boundaryTick b).timebase.position = 0 ∧
      (s.boundaryTick b).timebase.frame = s.timebase.frame + 1 ∧
      (s.boundaryTick b).timebase.fmark = true := by
  rw [State.boundaryTick_timebase]
  exact s.crossed_timebase b

theorem quietLanes_of_noLane (none : noLaneOf s g) : quietLanes s g := fun l => .inl (none l)

/-- A host with nothing running has no due cues after the boundary. -/
theorem notesTold_boundaryTick {bs : List NoticeBody} (active : ((s.crossed b).run h).active = none)
    (told : toldAtBoundary s (s.boundaryTick b) h (bs ++ notesTold (s.boundaryTick b) h)) :
    toldAtBoundary s (s.boundaryTick b) h bs := by
  have none : notesTold (s.boundaryTick b) h = [] := by
    refine notesTold_of_none ?_
    rw [State.run, State.host_boundaryTick]
    exact active
  rwa [none, List.append_nil] at told

theorem State.told_load {ld : Load} (b : BoundaryIn) (load : (s.host h).load = some ld)
    (late : ¬ ld.idle + 1 < idleLimit) (noProposal : s.proposal = none) (rests : notRunning s h)
    (quiet : quietLanes s h) :
    toldAtBoundary s (s.boundaryTick b) h [.loadTimeout ld.book ld.received] := by
  have begun : (s.begun b).Hush h (· = .load h) :=
    hush_begun (fun k _ => quiet k) (fun off => absurd rfl off) (fun _ => rests) fun _ => noProposal
  obtain ⟨before, c, -, -, -, hush, host, told, rest⟩ :=
    State.crossed_loud (.load h) (load_mem_everyBoundaryReaction h) (fun _ => id) begun
  obtain ⟨lanes, hostLast, toldLast⟩ := rest (hush.loads rfl (by simp))
  have timeout : c.state.Tells h [.loadTimeout ld.book ld.received] (c.react (.load h)).state :=
    State.tells_loadTimeout (by rw [host, load]) late
  refine notesTold_boundaryTick ?_ (State.told_boundaryTick ((told.quiet timeout).then_quiet toldLast)
    fun k _ => (lanes k (by simp)).deaf)
  have own : (c.react (.load h)).state.host h = (c.state.host h).loadBoundary := by
    rw [Crossing.react, State.host_loadBoundary, if_pos rfl]
  rw [State.run, hostLast, own, (Crossing.loadBoundary_like _).1, host]
  exact rests.1

theorem exec_loadIdleTimeout {ld : Load} (b : BoundaryIn) (next : boundaryNext s)
    (load : (s.host h).load = some ld) (idle : ld.idle = 7) :
    exec (.loadIdleTimeout h b) s = .next (s.boundaryTick b) := by
  change execLoadIdleTimeout h b s = _
  rw [execLoadIdleTimeout, if_pos]
  simp [s.atBoundary_iff.2 next, load, idle, idleLimit]

/-- Settles O42. -/
theorem loadTimesOut : Obligations.LoadTimesOut := by
  intro h b s next ld load idle
  have load : (s.host h).load = some ld := load
  have late : ¬ ld.idle + 1 < idleLimit := by simp [idle, idleLimit]
  have store := s.sameStore_crossed b h
  have rolled : (s.host h).loadBoundary = (s.host h).rollBack ld := by
    simp only [HostRecord.loadBoundary, load, if_neg late]
  rw [rolled] at store
  obtain ⟨-, position, frame, -⟩ := s.boundaryTick_clock b
  rw [exec_loadIdleTimeout b next load idle]
  refine ⟨_, rfl, ?_, ?_, ?_, ?_, frame, position, s.boundaryTick_jobs b,
    fun noProposal rests none => s.told_load b load late noProposal rests (quietLanes_of_noLane none)⟩
  · rw [State.host_boundaryTick, store.load]
    rfl
  · rw [State.host_boundaryTick, store.slots]
    rfl
  · rw [State.book, State.host_boundaryTick, store.cues]
    simp [HostRecord.rollBack, State.book]
  · rw [State.book, State.host_boundaryTick, store.cues]
    simp [HostRecord.rollBack, State.book]

/-! ### Run control -/

theorem State.run_boundaryTick (s : State) (b : BoundaryIn) (h : HostId) :
    (s.boundaryTick b).run h = (s.crossed b).run h := State.run_congr (s.boundaryTick_hosts b) h

theorem State.book_boundaryTick (s : State) (b : BoundaryIn) (h : HostId) (x : BookId) :
    (s.boundaryTick b).book h x = (s.crossed b).book h x := State.book_congr (s.boundaryTick_hosts b) h x

theorem State.run_after (b : BoundaryIn) (h : HostId) (agreed : ∀ p ∈ s.proposal, p.state = .agreed) :
    (s.boundaryTick b).run h = nextRun (s.run h) (s.host h).states :=
  (s.run_boundaryTick b h).trans
    ((s.host_crossed b h agreed).1.trans (HostRecord.runBoundary_run _))

theorem State.state_after (b : BoundaryIn) (agreed : ∀ p ∈ s.proposal, p.state = .agreed) {x : BookId}
    (stays : (s.host h).leaver ≠ some x) :
    ((s.boundaryTick b).book h x).state = nextStates (s.run h) (s.host h).states x := by
  rw [State.book_boundaryTick]
  exact ((s.host_crossed b h agreed).2.1 x stays).trans (HostRecord.runBoundary_states _ x)

theorem State.leaver_iff (s : State) (h : HostId) :
    (s.host h).leaver =
      if (nextRun (s.run h) (s.host h).states).active = (s.run h).active then none
      else (s.run h).active := HostRecord.leaver_eq _

/-- The book that leaves ACTIVE, READY or demoted (R98, R155). -/
theorem State.book_leaver (b : BoundaryIn) (agreed : ∀ p ∈ s.proposal, p.state = .agreed)
    (leaves : (s.host h).leaver = some a) (free : (s.host h).load.map (·.book) ≠ some a) :
    (s.boundaryTick b).book h a =
      if (s.book h a).fits (nextF s) then { s.book h a with state := .ready }
      else { s.book h a with state := .draft, runList := none } := by
  have book : (s.host h).runBoundary.book a = (s.book h a).inState .ready := by
    have ready := HostRecord.states_leaver leaves
    rw [HostRecord.runBoundary_states] at ready
    rw [(s.host h).runBoundary_closed.2, ready]
    rfl
  have fits : ((s.book h a).inState .ready).fits (nextF s) = (s.book h a).fits (nextF s) := rfl
  rw [State.book_boundaryTick, (s.host_crossed b h agreed).2.2 a free, book, fits]
  by_cases ok : (s.book h a).fits (nextF s) = true
  · simp [ok, Book.inState]
  · simp [ok, leaves, Book.demoted, Book.inState]

/-- Settles O39. -/
theorem boundaryRuns : Obligations.BoundaryRuns := by
  intro h b s next agreed
  obtain ⟨-, -, books⟩ := s.host_crossed b h agreed
  have run' := State.run_after b h agreed
  have leaver := s.leaver_iff h
  refine ⟨_, exec_frameBoundary_next b next, fun single x _ action other free => ?_,
    fun single action a active free => ?_, fun single action => ?_, fun alternate turn active => ?_,
    fun noProposal noLoad quiet single fits => ?_⟩
  · have next : nextRun (s.run h) (s.host h).states = { s.run h with active := some x, action := .none } := by
      simp [nextRun, single, action]
    have leaver : (s.host h).leaver = (s.run h).active := by
      rw [leaver, next, if_neg (Ne.symm other)]
    have stays : (s.host h).leaver ≠ some x := by rwa [leaver]
    refine ⟨by rw [run', next], ?_, fun a active freeA => State.book_leaver b agreed
      (leaver.trans active) freeA⟩
    rw [State.book_boundaryTick, books x free, if_neg (by simp [stays]), (s.host h).runBoundary_closed.2]
    have single : (s.host h).run.mode = .single := single
    have action : (s.host h).run.action = .swapTo x := action
    simp [nextStates, single, action, Book.inState, State.book]
  · have active : (s.run h).active = some a := active
    have next : nextRun (s.run h) (s.host h).states = { s.run h with active := none, action := .none } := by
      simp [nextRun, single, action, active]
    have leaver : (s.host h).leaver = some a := by simp [leaver, next, active]
    exact ⟨by rw [run', next], State.book_leaver b agreed leaver free⟩
  · have next : nextRun (s.run h) (s.host h).states = s.run h := by simp [nextRun, single, action]
    have leaver : (s.host h).leaver = none := by simp [leaver, next]
    refine ⟨by rw [run', next], fun x _ => ?_⟩
    rw [State.state_after b agreed (by simp [leaver])]
    simp only [nextStates, single, action]
    rfl
  · obtain ⟨a, active⟩ := Option.ne_none_iff_exists'.1 active
    have later : ¬ (s.run h).turn ≤ 1 := by omega
    have next : nextRun (s.run h) (s.host h).states = { s.run h with turn := (s.run h).turn - 1 } := by
      simp [nextRun, alternate, active, later]
    have leaver : (s.host h).leaver = none := by simp [leaver, next]
    refine ⟨by rw [run', next], fun x _ => ?_⟩
    rw [State.state_after b agreed (by simp [leaver])]
    simp only [nextStates, alternate, active, later, false_and, if_false]
    rfl
  · have fits' (a : BookId) (leaves : (s.host h).leaver = some a) :
        (s.book h a).fits (nextF s) = true := by
      rw [leaver] at leaves
      split at leaves
      · cases leaves
      · exact fits a leaves
    obtain ⟨host, told⟩ := s.told_run b noProposal noLoad quiet fits'
    have single : (s.host h).run.mode = .single := single
    refine ⟨fun x _ action other => ?_, fun action a active => ?_⟩
    · have action : (s.host h).run.action = .swapTo x := action
      have runTold : (s.host h).runTold = [.bookActive x] := by
        simp [HostRecord.runTold, single, action]
      rwa [runTold] at told
    · have action : (s.host h).run.action = .halt := action
      have active : (s.host h).run.active = some a := active
      have runTold : (s.host h).runTold = [.halted a] := by
        simp [HostRecord.runTold, single, action, active]
      rw [runTold] at told
      refine notesTold_boundaryTick ?_ told
      rw [State.run, host, HostRecord.runBoundary_run]
      simp [nextRun, single, action, active]

theorem exec_alternationTurn (b : BoundaryIn) (next : boundaryNext s)
    (alternate : (s.run h).mode = .alternate) (turn : (s.run h).turn = 1) :
    exec (.alternationTurn h b) s = .next (s.boundaryTick b) := by
  change execAlternationTurn h b s = _
  rw [execAlternationTurn, if_pos]
  simp [s.atBoundary_iff.2 next, alternate, turn]

/-- Settles O43. -/
theorem alternationTurns : Obligations.AlternationTurns := by
  intro h b s next agreed alternate turn a active
  have active : (s.run h).active = some a := active
  have due : (s.run h).turn ≤ 1 := by omega
  obtain ⟨-, -, books⟩ := s.host_crossed b h agreed
  have run' := State.run_after b h agreed
  have leaver := s.leaver_iff h
  rw [exec_alternationTurn b next alternate turn]
  refine ⟨_, rfl, fun ready noLoad => ?_, fun notReady => ?_, fun noProposal noLoad quiet => ?_⟩
  · have ready : (s.host h).states a.other = .ready := ready
    have next : nextRun (s.run h) (s.host h).states =
        { s.run h with active := some a.other, turn := (s.run h).runOf a.other } := by
      simp [nextRun, alternate, active, due, ready]
    have leaver : (s.host h).leaver = some a := by
      have moved : a.other ≠ a := BookId.other_ne a
      simp [leaver, next, active, moved]
    have free (x : BookId) : (s.host h).load.map (·.book) ≠ some x := by simp [noLoad]
    refine ⟨?_, ?_, State.book_leaver b agreed leaver (free a)⟩
    · rw [run', next]
      cases a <;> rfl
    · have stays : (s.host h).leaver ≠ some a.other := by
        rw [leaver]
        exact fun same => BookId.other_ne a (Option.some.inj same).symm
      rw [State.book_boundaryTick, books a.other (free _), if_neg (by simp [stays]),
        (s.host h).runBoundary_closed.2]
      have alternate : (s.host h).run.mode = .alternate := alternate
      have active : (s.host h).run.active = some a := active
      have due : (s.host h).run.turn ≤ 1 := due
      simp [nextStates, alternate, active, due, ready, Book.inState, State.book]
  · have notReady : (s.host h).states a.other ≠ .ready := notReady
    have next : nextRun (s.run h) (s.host h).states = { s.run h with turn := (s.run h).runOf a } := by
      simp [nextRun, alternate, active, due, notReady]
    have leaver : (s.host h).leaver = none := by simp [leaver, next]
    have state (x : BookId) : ((s.boundaryTick b).book h x).state = (s.book h x).state := by
      rw [State.state_after b agreed (by simp [leaver])]
      simp only [nextStates, alternate, active, notReady, and_false, if_false]
      rfl
    refine ⟨?_, state a, state a.other⟩
    rw [run', next]
    cases a <;> rfl
  · have alternate : (s.host h).run.mode = .alternate := alternate
    have active' : (s.host h).run.active = some a := active
    have due : (s.host h).run.turn ≤ 1 := due
    have told (fits : (s.host h).leaver = some a → (s.book h a).fits (nextF s) = true) :=
      (s.told_run b noProposal noLoad quiet fun x leaves => by
        have same : some x = some a := by
          rw [← active, ← leaves, leaver]
          split
          · rename_i none
            rw [leaver, if_pos none] at leaves
            cases leaves
          · rfl
        cases same
        exact fits leaves).2
    refine ⟨fun ready fits => ?_, fun notReady => ?_⟩
    · have ready : ((s.host h).book a.other).state = .ready := ready
      have runTold : (s.host h).runTold = [.bookActive a.other] := by
        simp [HostRecord.runTold, alternate, active', due, ready]
      have told := told fun _ => fits
      rwa [runTold] at told
    · have notReady' : ((s.host h).book a.other).state ≠ .ready := notReady
      have runTold : (s.host h).runTold = [.turnSkipped a.other (s.book h a.other).state] := by
        simp [HostRecord.runTold, alternate, active', due, notReady', State.book]
      have notReady : (s.host h).states a.other ≠ .ready := notReady
      have told := told fun leaves => by
        rw [leaver] at leaves
        simp [nextRun, State.run, alternate, active', due, notReady] at leaves
      rwa [runTold] at told

end Sys2Proof.Machine
end

section
/-!
PROOFS. O37: what a boundary leaves of the timebase, the ports, the lanes' holders and the books, and the
cues that start at position 0 (R3, R4, R6 to R8, R71, R112 to R115).
-/

namespace Sys2Proof.Machine

open Sys2Proof.Safety

variable {s t : State} {l : LaneId} {g h : HostId} {x : Lane} {b : BoundaryIn}

/-! ### The last cue that starts -/

/-- What a cue makes of level and pulse end at position 0 (R16, R17). -/
def startsAtZero (c : Cue) (x : Lane) : Prop :=
  ((∃ k : LaneId, c.action = .rise k) → x.level = true ∧ x.pulseEnd = none) ∧
    ((∃ k : LaneId, c.action = .fall k) → x.level = false ∧ x.pulseEnd = none) ∧
    ∀ w ∈ pulseWidth c, x.level = true ∧ x.pulseEnd = some w

theorem State.afterDrive_keeps (s : State) (l : LaneId) (x : Lane) :
    (s.afterDrive l x).holder = x.holder ∧ (s.afterDrive l x).state = x.state ∧
      (s.afterDrive l x).faultFlag = x.faultFlag := by
  rw [State.afterDrive, Lane.arrive_eq]
  exact ⟨rfl, rfl, rfl⟩

theorem State.afterDrive_last (zero : s.timebase.position = 0) {c : Cue}
    (last : c ∈ (s.startingOn l x).getLast?) : startsAtZero c (s.afterDrive l x) := by
  have lane := State.lane_of_mem_startingOn (List.mem_of_getLast? last)
  rw [State.afterDrive, Lane.arrive_eq, foldl_driven_getLast last (by simp [lane]), zero]
  refine ⟨fun ⟨k, rise⟩ => by simp [rise, Action.driven], fun ⟨k, fall⟩ => by simp [fall, Action.driven],
    fun w width => ?_⟩
  cases action : c.action <;> simp_all [pulseWidth, Action.driven]

/-- On a lane that is sound after an arrival at 0, no check has faulted it: the last cue that starts has
set its level and its pulse end (R113, R114). -/
theorem State.arrive_last (i : ArrivalIn) (zero : s.timebase.position = 0) {c : Cue}
    (last : c ∈ ((s.arrive i).starting l).getLast?) : startsAtZero c ((s.arrive i).lane l) := by
  rw [State.starting_eq (s := s) (State.arrive_hosts s i) (State.arrive_timebase s i)] at last
  have sound := ((s.mem_startingOn l _ c).1 (List.mem_of_getLast? last)).2.1
  have drives {y : Lane} (lane : (s.arrive i).lane l = s.afterDrive l y) :
      startsAtZero c ((s.arrive i).lane l) := by
    obtain ⟨holder, state, flag⟩ := s.afterDrive_keeps l y
    rw [lane, State.startingOn_congr holder state flag] at last
    rw [lane]
    exact State.afterDrive_last zero last
  have lane := s.lane_arrive i l
  split at lane
  · rcases s.afterCheck_cases i l (s.afterDrive l (s.lane l).takeDue) with same | ⟨-, -, faulted⟩
    · exact drives (lane.trans same)
    · rw [lane, faulted] at sound
      cases sound
  · exact drives lane

/-! ### What moves of a record keep -/

theorem HostRecord.nextRun_keeps (run : RunRecord) (st : BookId → BookState) :
    (nextRun run st).mode = run.mode ∧ (nextRun run st).runA = run.runA ∧
      (nextRun run st).runB = run.runB := by
  unfold nextRun
  split
  · exact ⟨rfl, rfl, rfl⟩
  · exact ⟨rfl, rfl, rfl⟩
  · split
    · split <;> exact ⟨rfl, rfl, rfl⟩
    · exact ⟨rfl, rfl, rfl⟩
  · exact ⟨rfl, rfl, rfl⟩

/-- A boundary leaves the mode and the run lengths (R106). -/
theorem State.mode_crossed (s : State) (b : BoundaryIn) (h : HostId) :
    ((s.crossed b).run h).mode = (s.run h).mode ∧ ((s.crossed b).run h).runA = (s.run h).runA ∧
      ((s.crossed b).run h).runB = (s.run h).runB := by
  refine State.host_crossBoundary_keeps (s := s.enterFrame)
    (P := fun g r => r.run.mode = (s.run g).mode ∧ r.run.runA = (s.run g).runA ∧
      r.run.runB = (s.run g).runB) (fun g r r' move law => ?_) b (fun g => ?_) h
  · obtain ⟨mode, runA, runB⟩ := law
    cases move with
    | load =>
      rw [(Crossing.loadBoundary_like r).1]
      exact ⟨mode, runA, runB⟩
    | run =>
      rw [HostRecord.runBoundary_run]
      obtain ⟨mode', runA', runB'⟩ := HostRecord.nextRun_keeps r.run r.states
      exact ⟨mode'.trans mode, runA'.trans runA, runB'.trans runB⟩
    | demote y =>
      unfold HostRecord.demote
      rw [HostRecord.setRun_run]
      split <;> exact ⟨mode, runA, runB⟩
  · rw [State.host_congr s.enterFrame_hosts]
    exact ⟨rfl, rfl, rfl⟩

/-- The lane is held by `h`, and is neither given up nor being handed over. -/
structure Lane.HeldBy (h : Option HostId) (x : Lane) : Prop where
  holder : x.holder = h
  notRetiring : x.state ≠ .retiring
  notHandover : x.state ≠ .handover

theorem Lane.HeldBy.boundaryCheck {h : Option HostId} (held : x.HeldBy h) (f : Word32) (bit : Bool) :
    (Lane.boundaryCheck l f bit x).1.HeldBy h := by
  have holder := (Lane.sameHolding_boundaryCheck l f bit x).1.trans held.holder
  by_cases offered : x.state = .offered
  · have given := Lane.boundaryCheck_given (l := l) (f := f) (bit := bit) (.inr offered : x.Given)
    exact ⟨holder, by rcases given with state | state <;> simp [state],
      by rcases given with state | state <;> simp [state]⟩
  · have state := Lane.boundaryCheck_state (l := l) (f := f) (bit := bit) offered
    exact ⟨holder, by rw [state]; exact held.notRetiring, by rw [state]; exact held.notHandover⟩

theorem Lane.HeldBy.atBoundary {h : Option HostId} (held : x.HeldBy h) :
    (Lane.atBoundary l x).1.HeldBy h := by
  have apply {y : Lane} (held : y.HeldBy h) : y.applySettings.HeldBy h := by
    obtain ⟨-, -, holder, state, -⟩ := y.applySettings_settings
    exact ⟨holder.trans held.holder, by rw [state]; exact held.notRetiring,
      by rw [state]; exact held.notHandover⟩
  cases state : x.state with
  | free =>
    rw [Lane.atBoundary_free state]
    exact held
  | held =>
    rw [Lane.atBoundary_held state]
    exact apply held
  | offered =>
    rw [Lane.atBoundary_offered state]
    refine apply ?_
    unfold Lane.countOffer
    split
    · split
      · exact ⟨held.holder, nofun, nofun⟩
      · exact ⟨held.holder, held.notRetiring, held.notHandover⟩
    · exact held
  | handover => exact absurd state held.notHandover
  | retiring => exact absurd state held.notRetiring

/-- A lane keeps its holder at a boundary unless it is freed or handed over (R33). -/
theorem State.holder_boundaryTick (b : BoundaryIn) (notRetiring : (s.lane l).state ≠ .retiring)
    (notHandover : (s.lane l).state ≠ .handover) :
    ((s.boundaryTick b).lane l).holder = (s.lane l).holder := by
  have crossed : ((s.crossed b).lane l).HeldBy (s.lane l).holder := by
    refine State.lane_crossBoundary_keeps (P := Lane.HeldBy (s.lane l).holder)
      (fun _ held => held.atBoundary) (fun _ f bit held => held.boundaryCheck f bit) _ b ?_
    obtain ⟨state, holder, -⟩ := (s.lane l).entered_keeps s.timebase.f
    rw [State.lane_enterFrame_eq]
    exact ⟨holder, by rwa [state], by rwa [state]⟩
  exact ((s.crossed b).sameHolding_arrive b.start l).1.trans crossed.holder

/-! ### What no boundary touches -/

/-- `t` has the reset pin, the port served last and the waiting commands of `s`. -/
structure State.SameOutside (s t : State) : Prop where
  rstN : t.rstN = s.rstN
  lastServed : t.lastServed = s.lastServed
  pending : t.pending = s.pending

theorem State.SameOutside.trans {u : State} (first : s.SameOutside t) (second : t.SameOutside u) :
    s.SameOutside u :=
  ⟨second.rstN.trans first.rstN, second.lastServed.trans first.lastServed,
    second.pending.trans first.pending⟩

theorem State.sameOutside_of_pins (pins : samePins s t) : s.SameOutside t :=
  ⟨pins.1, pins.2.2.1, pins.2.2.2⟩

theorem State.sameOutside_proposalBoundary (s : State) : s.SameOutside s.proposalBoundary.1 := by
  unfold State.proposalBoundary
  split
  · exact ⟨rfl, rfl, rfl⟩
  · split
    · exact ⟨by simp, by simp, by simp⟩
    · dsimp only
      split
      · exact ⟨rfl, rfl, rfl⟩
      · split
        · rename_i p _ _ _ _ _
          obtain ⟨rstN, lastServed, pending⟩ :=
            State.sameOutside_of_pins (s.setProposal (some (s.withoutLaneless p))).clearProposal_pins
          exact ⟨by simpa [State.endProposal] using rstN, by simpa [State.endProposal] using lastServed,
            by simpa [State.endProposal] using pending⟩
        · exact ⟨rfl, rfl, rfl⟩

theorem Crossing.sameOutside_react (c : Crossing) (r : BoundaryReaction) :
    c.state.SameOutside (c.react r).state := by
  cases r with
  | lane l => exact ⟨by simp [Crossing.react], by simp [Crossing.react], by simp [Crossing.react]⟩
  | check l => exact ⟨by simp [Crossing.react], by simp [Crossing.react], by simp [Crossing.react]⟩
  | load h => exact ⟨by simp [Crossing.react], by simp [Crossing.react], by simp [Crossing.react]⟩
  | run h =>
    have ran : c.state.SameOutside (c.state.runBoundary h) := ⟨by simp, by simp, by simp⟩
    simp only [Crossing.react, Crossing.run]
    split
    · exact ran
    · split
      · dsimp only
        split
        · exact ran.trans ⟨by simp, by simp, by simp⟩
        · exact ran
      · exact ran
  | agreement =>
    refine c.state.sameOutside_proposalBoundary.trans ⟨?_, ?_, ?_⟩
    all_goals simp [Crossing.react, State.agreementBoundary]

theorem State.sameOutside_boundaryTick (s : State) (b : BoundaryIn) : s.SameOutside (s.boundaryTick b) := by
  have entered : s.SameOutside s.enterFrame := by
    refine ⟨?_, ?_, ?_⟩
    all_goals simp [State.enterFrame, State.frameEnd, State.mapLanes]
  obtain ⟨c, crossed, result⟩ := s.enterFrame.crossBoundary_keeps b
    (fun c => s.enterFrame.SameOutside c.state)
    (fun c r same => same.trans (c.sameOutside_react r)) ⟨rfl, rfl, rfl⟩
  rw [State.boundaryTick_eq, State.crossed, result]
  exact entered.trans (crossed.trans ⟨by simp, by simp, by simp⟩)

/-! ### O37 -/

theorem HostRecord.loadBoundary_of_none {r : HostRecord} (none : r.load = none) : r.loadBoundary = r := by
  simp only [HostRecord.loadBoundary, none]

theorem HostRecord.loadBoundary_of_idle {r : HostRecord} {ld : Load} (load : r.load = some ld)
    (early : ld.idle + 1 < idleLimit) :
    r.loadBoundary = { r with load := some { ld with idle := ld.idle + 1 } } := by
  simp only [HostRecord.loadBoundary, load, if_pos early]
  rfl

/-- A book that runs on leaves ACTIVE no more than it tells its host. -/
theorem HostRecord.runs_on {r : HostRecord}
    (on : (r.run.mode = .single ∧ r.run.action = .none) ∨ (r.run.mode = .alternate ∧ 2 ≤ r.run.turn)) :
    r.runTold = [] ∧ r.leaver = none := by
  rcases on with ⟨single, none⟩ | ⟨alternate, turn⟩
  · refine ⟨by simp [HostRecord.runTold, single, none], ?_⟩
    rw [HostRecord.leaver_eq]
    simp [nextRun, single, none]
  · have later : ¬ r.run.turn ≤ 1 := by omega
    refine ⟨?_, ?_⟩
    · cases active : r.run.active <;> simp [HostRecord.runTold, alternate, active, later]
    · rw [HostRecord.leaver_eq]
      cases active : r.run.active <;> simp [nextRun, alternate, active, later]

theorem State.nextLength_boundaryTick (b : BoundaryIn) (agreed : ∀ p ∈ s.proposal, p.state = .agreed) :
    (s.boundaryTick b).timebase = s.timebase.boundary ∧ (s.crossed b).proposal = none := by
  obtain ⟨u, timebase, proposal, timebaseAfter, proposalAfter⟩ := s.crossed_agreement b
  obtain ⟨-, cleared, same⟩ := Crossing.proposalBoundary_of_agreed (s := u) (by rwa [proposal])
  rw [State.boundaryTick_timebase, timebaseAfter, proposalAfter, same, timebase]
  exact ⟨rfl, cleared⟩

/-- Settles O37. -/
theorem boundaryTick : Obligations.BoundaryTick := by
  intro b s next
  obtain ⟨f, position, frame, fmark⟩ := s.boundaryTick_clock b
  obtain ⟨rstN, lastServed, pending⟩ := s.sameOutside_boundaryTick b
  refine ⟨_, exec_frameBoundary_next b next, rstN.trans next.1, State.arrive_rbk (s.crossed b) b.start,
    lastServed, pending, s.boundaryTick_jobs b, f, position, frame, fmark, fun agreed => ?_,
    fun g => ((s.noticed_boundaryTick b).port g).same, fun h => ?_,
    fun l notRetiring notHandover => State.holder_boundaryTick b notRetiring notHandover,
    fun l c last => State.arrive_last (s := s.crossed b) b.start (s.crossed_timebase b).2.1 last,
    fun g noProposal noLoad quiet runs => ?_⟩
  · rw [(State.nextLength_boundaryTick b agreed).1]
    rfl
  · obtain ⟨mode, runA, runB⟩ := s.mode_crossed b h
    obtain ⟨load, slots, cues⟩ := s.sameStore_crossed b h
    rw [State.run_boundaryTick, State.host_boundaryTick]
    simp only [State.book_boundaryTick]
    refine ⟨mode, runA, runB, fun none => ?_, fun ld has early => ?_⟩
    · rw [HostRecord.loadBoundary_of_none none] at load slots cues
      exact ⟨load.trans none, slots, fun x _ => cues x⟩
    · rw [HostRecord.loadBoundary_of_idle has early] at load slots cues
      refine ⟨load, slots, fun x _ => (cues x).trans ?_⟩
      cases x <;> rfl
  · obtain ⟨told, leaver⟩ := HostRecord.runs_on (r := s.host g) runs
    have whole := (s.told_run b noProposal noLoad quiet (by simp [leaver])).2
    rwa [told] at whole

end Sys2Proof.Machine
end

section
/-!
PROOFS. The agreement unit at a boundary: what it reads of the lanes, what it tells, and the books that it
demotes; and O40, a length that is taken (R8, R147, R152, R154 to R157).
-/

namespace Sys2Proof.Machine

open Sys2Proof.Safety

variable {s t u v : State} {l : LaneId} {g h : HostId} {x : Lane} {b : BoundaryIn}
  {bs : List NoticeBody} {next : Option Nat}

/-! ### Which hosts hold a lane when the agreement unit reacts -/

/-- The lane is host `h`'s once the lane table has reacted (R33, R147). -/
def Lane.worksNext (x : Lane) (h : HostId) : Prop :=
  ((x.state = .held ∨ x.state = .offered) ∧ x.holder = some h) ∨
    (x.state = .handover ∧ x.offer.map (·.target) = some h)

/-- A HANDOVER lane has its giver and its target. -/
def Lane.Owned (x : Lane) : Prop := x.state = .handover → x.holder.isSome = true ∧ x.offer.isSome = true

namespace Lane

theorem worksNext_entered (x : Lane) (f : Nat) (h : HostId) :
    (x.entered f).worksNext h ↔ x.worksNext h := by
  obtain ⟨state, holder, -, -, offer, -, -⟩ := x.entered_keeps f
  unfold worksNext
  rw [state, holder, offer]

theorem Owned.entered (owned : x.Owned) (f : Nat) : (x.entered f).Owned := by
  obtain ⟨state, holder, -, -, offer, -, -⟩ := x.entered_keeps f
  unfold Owned
  rwa [state, holder, offer]

/-- A check ends an offer and leaves the lane with its giver (R131). -/
theorem boundaryCheck_works (l : LaneId) (f : Word32) (bit : Bool) (x : Lane) :
    (∀ h, (Lane.boundaryCheck l f bit x).1.worksNext h ↔ x.worksNext h) ∧
      (x.Owned → (Lane.boundaryCheck l f bit x).1.Owned) ∧
      (x.state ≠ .handover → (Lane.boundaryCheck l f bit x).1.state ≠ .handover) := by
  rcases boundaryCheck_cases l f bit x with same | ⟨-, -, -, fault⟩
  · rw [same]
    exact ⟨fun _ => Iff.rfl, id, id⟩
  · rw [fault]
    unfold worksNext Owned Lane.fault
    dsimp only
    split
    · rename_i offered _
      simp [offered, Lane.offerEnded]
    · exact ⟨fun _ => Iff.rfl, id, id⟩

theorem applySettings_works (x : Lane) :
    (∀ h, x.applySettings.worksNext h ↔ x.worksNext h) ∧ x.applySettings.state = x.state := by
  obtain ⟨-, -, holder, state, -⟩ := x.applySettings_settings
  unfold worksNext
  rw [state, holder, x.applySettings_offer]
  exact ⟨fun _ => Iff.rfl, rfl⟩

theorem countOffer_works (offered : x.state = .offered) :
    (∀ h, (x.countOffer l).1.worksNext h ↔ x.worksNext h) ∧ (x.countOffer l).1.state ≠ .handover := by
  unfold Lane.countOffer
  split
  · split
    · exact ⟨fun h => by simp [worksNext, offered], nofun⟩
    · exact ⟨fun h => by simp [worksNext, offered], by simp [offered]⟩
  · exact ⟨fun _ => Iff.rfl, by simp [offered]⟩

/-- The lane table hands a HANDOVER lane over, and takes no other from its holder but a RETIRING one
(R33). -/
theorem atBoundary_works (owned : x.Owned) :
    (∀ h, (Lane.atBoundary l x).1.worksNext h ↔ x.worksNext h) ∧
      (Lane.atBoundary l x).1.state ≠ .handover := by
  cases state : x.state with
  | free =>
    rw [atBoundary_free state]
    exact ⟨fun _ => Iff.rfl, by simp [state]⟩
  | held =>
    rw [atBoundary_held state]
    obtain ⟨works, same⟩ := x.applySettings_works
    exact ⟨works, by simp [same, state]⟩
  | offered =>
    rw [atBoundary_offered state]
    obtain ⟨works, same⟩ := (x.countOffer l).1.applySettings_works
    obtain ⟨counts, notHandover⟩ := countOffer_works (l := l) state
    exact ⟨fun h => (works h).trans (counts h), by rwa [same]⟩
  | handover =>
    obtain ⟨giver, offered⟩ := owned state
    obtain ⟨giver, holder⟩ := Option.isSome_iff_exists.1 giver
    obtain ⟨o, offer⟩ := Option.isSome_iff_exists.1 offered
    rw [atBoundary_handover state offer holder, Lane.handOver_eq]
    exact ⟨fun h => by simp [worksNext, state, offer], nofun⟩
  | retiring =>
    rw [atBoundary_retiring state]
    exact ⟨fun h => by simp [worksNext, state, Lane.freed], nofun⟩

theorem workedBy_iff (settled : x.state ≠ .handover) (h : HostId) :
    x.toLaneRecord.workedBy h = true ↔ x.worksNext h := by
  unfold LaneRecord.workedBy worksNext
  cases state : x.state <;> simp_all [LaneState.working]

end Lane

/-- What the lane table's reaction and the monitor's check keep of a lane, a list of reactions keeps. -/
theorem Crossing.lane_foldl_keeps {P : Lane → Prop} (table : ∀ x, P x → P (Lane.atBoundary l x).1)
    (check : ∀ x f bit, P x → P (Lane.boundaryCheck l f bit x).1) (rs : List BoundaryReaction)
    (c : Crossing) (start : P (c.state.lane l)) : P ((rs.foldl Crossing.react c).state.lane l) :=
  Crossing.foldl_react_keeps (P := fun c => P (c.state.lane l)) (fun c r _ law => by
    by_cases isLane : r = .lane l
    · rw [isLane, Crossing.lane_react_lane]
      exact table _ law
    · by_cases isCheck : r = .check l
      · rw [isCheck, Crossing.lane_react_check]
        exact check _ _ _ law
      · rwa [Crossing.lane_react_other c isLane isCheck]) c start

/-- Lane `x` belongs to the hosts that `y` belongs to once the lane table has reacted, and a handover of it
can complete. -/
structure Lane.WorksAs (y x : Lane) : Prop where
  owned : x.Owned
  works : ∀ h, x.worksNext h ↔ y.worksNext h

theorem Lane.WorksAs.atBoundary {y : Lane} (law : y.WorksAs x) :
    y.WorksAs (Lane.atBoundary l x).1 ∧ (Lane.atBoundary l x).1.state ≠ .handover := by
  obtain ⟨works, settled⟩ := Lane.atBoundary_works (l := l) law.owned
  exact ⟨⟨fun handover => absurd handover settled, fun h => (works h).trans (law.works h)⟩, settled⟩

theorem Lane.WorksAs.boundaryCheck {y : Lane} (law : y.WorksAs x) (f : Word32) (bit : Bool) :
    y.WorksAs (Lane.boundaryCheck l f bit x).1 := by
  obtain ⟨works, owned, -⟩ := Lane.boundaryCheck_works l f bit x
  exact ⟨owned law.owned, fun h => (works h).trans (law.works h)⟩

/-- After the lane table's reaction on a lane it is worked by the host to which it then belongs. -/
theorem Crossing.workedBy_foldl {rs : List BoundaryReaction} (reacted : .lane l ∈ rs) (c : Crossing)
    (owned : (c.state.lane l).Owned) (h : HostId) :
    ((rs.foldl Crossing.react c).state.lane l).toLaneRecord.workedBy h = true ↔
      (c.state.lane l).worksNext h := by
  obtain ⟨before, after, rfl⟩ := List.append_of_mem reacted
  rw [List.foldl_append, List.foldl_cons]
  have first : (c.state.lane l).WorksAs ((before.foldl Crossing.react c).state.lane l) :=
    lane_foldl_keeps (fun _ law => law.atBoundary.1) (fun _ f bit law => law.boundaryCheck f bit) before c
      ⟨owned, fun _ => Iff.rfl⟩
  have last := lane_foldl_keeps (l := l)
    (P := fun x => (c.state.lane l).WorksAs x ∧ x.state ≠ .handover)
    (fun _ law => law.1.atBoundary)
    (fun x f bit law => ⟨law.1.boundaryCheck f bit, (Lane.boundaryCheck_works l f bit x).2.2 law.2⟩)
    after ((before.foldl Crossing.react c).react (.lane l))
    (by rw [Crossing.lane_react_lane]; exact first.atBoundary)
  exact (Lane.workedBy_iff last.2 h).trans (last.1.works h)

/-! ### The agreement unit's own reaction -/

theorem demotedBy_eq_both (f : Nat) (r : HostRecord) :
    demotedBy f r = r.demoteBoth (fun _ bk => bk.idleMisfit f) ∧
      demotionsTold f r = r.demotedTold fun _ bk => bk.idleMisfit f := by
  refine ⟨demotedBy_eq f r, rfl⟩

/-- The books to demote where a length may have been agreed (R154). -/
def misfits (next : Option Nat) (_ : BookId) (bk : Book) : Bool := next.any bk.idleMisfit

/-- Demotions start nothing (R104). -/
theorem HostRecord.rests_demoteBoth {r : HostRecord} (test : BookId → Book → Bool)
    (rests : r.run.active = none ∧ r.run.action = .none) :
    (r.demoteBoth test).run.active = none ∧ (r.demoteBoth test).run.action = .none := by
  have one {r : HostRecord} (test : Book → Bool) (b : BookId)
      (rests : r.run.active = none ∧ r.run.action = .none) :
      (r.demoteIf test b).run.active = none ∧ (r.demoteIf test b).run.action = .none := by
    unfold HostRecord.demoteIf HostRecord.demote
    split
    · rw [HostRecord.setRun_run]
      split
      · exact ⟨rests.1, rfl⟩
      · exact rests
    · exact rests
  exact one _ _ (one _ _ rests)

/-- The agreement unit's reaction for a host whose books have not left ACTIVE. -/
theorem Crossing.Hush.agrees {c : Crossing} {loud : BoundaryReaction → Prop} (hush : c.Hush g loud)
    (isLoud : loud .agreement) (quiet : ¬ loud (.run g))
    (told : c.state.Tells g bs c.state.proposalBoundary.1) :
    (c.react .agreement).Hush g loud ∧
      (c.react .agreement).state.host g =
        (c.state.host g).demoteBoth (misfits c.state.proposalBoundary.2) ∧
      c.state.Tells g (bs ++ (c.state.host g).demotedTold (misfits c.state.proposalBoundary.2))
        (c.react .agreement).state := by
  have test : (fun b bk => (match c.state.proposalBoundary.2 with
      | some f => bk.idleMisfit f
      | none => false) || (c.left.contains (g, b) && c.state.proposalBoundary.1.leaverMisfit bk)) =
      misfits c.state.proposalBoundary.2 := by
    funext b bk
    have away : (g, b) ∉ c.left := fun mem => quiet (hush.left b mem).1
    cases next : c.state.proposalBoundary.2 <;> simp [misfits, away]
  have host : (c.react .agreement).state.host g =
      (c.state.host g).demoteBoth (misfits c.state.proposalBoundary.2) := by
    rw [Crossing.react, State.agreementBoundary]
    dsimp only
    rw [State.host_demoteWhere, State.host_congr (State.proposalBoundary_hosts _)]
    exact congrArg _ test
  refine ⟨⟨fun k off => ?_, fun off => ?_, fun off => ?_, fun off => absurd isLoud off,
    fun b mem => absurd (hush.left b mem).1 quiet⟩, host, ?_⟩
  · rw [Crossing.lane_react_other (r := .agreement) c (by simp) (by simp)]
    exact hush.lanes k off
  · rw [host]
    exact (HostRecord.sameStore_demoteBoth _ _).load.trans (hush.load off)
  · rw [host]
    exact HostRecord.rests_demoteBoth _ (hush.run off)
  · rw [Crossing.react, State.agreementBoundary]
    have demoted := c.state.proposalBoundary.1.tells_demoteWhere (fun h b bk =>
      (match c.state.proposalBoundary.2 with
        | some f => bk.idleMisfit f
        | none => false) || (c.left.contains (h, b) && c.state.proposalBoundary.1.leaverMisfit bk)) g
    rw [State.host_congr (State.proposalBoundary_hosts _)] at demoted
    exact told.trans (test ▸ demoted)

/-- A length agreed at a boundary is one that books which leave ACTIVE must fit (R155). -/
theorem State.agreed_mem_lengthsRequired {f : Nat} (agreed : s.proposalBoundary.2 = some f) :
    f ∈ s.proposalBoundary.1.lengthsRequired := by
  unfold State.proposalBoundary at agreed ⊢
  cases record : s.proposal with
  | none => simp [record] at agreed
  | some p =>
    cases state : p.state with
    | agreed => simp [record, state] at agreed
    | opened =>
      simp only [record, state] at agreed ⊢
      split at agreed
      · rename_i every
        rw [if_pos every]
        cases agreed
        simp [State.lengthsRequired, State.recordAgreed]
      · split at agreed <;> cases agreed

theorem FitsAfter.agreed {c : Crossing} {f : Nat} (agreed : c.state.proposalBoundary.2 = some f) :
    FitsAfter c.state.proposalBoundary.1.lengthsRequired [f] (c.react .agreement) := by
  refine ⟨rfl, c.lengths_agreement, fun h b => ?_⟩
  change ((c.state.agreementBoundary c.left).book h b).FitsIdle _
  rw [State.agreementBoundary, State.book_demoteWhere]
  split_ifs with kept
  · exact Book.fitsIdle_draft rfl _
  · rw [agreed, Bool.or_eq_true, not_or] at kept
    exact Book.fitsIdle_of_not_misfit (Bool.eq_false_iff.2 kept.1)

/-- A boundary for the agreement unit: `u` is what it finds as it reacts. -/
structure State.AgreementAt (s : State) (b : BoundaryIn) (u : State) : Prop where
  before : u.timebase = s.timebase.boundary ∧ u.proposal = s.proposal
  after : (s.crossed b).timebase = u.proposalBoundary.1.timebase ∧
    (s.crossed b).proposal = u.proposalBoundary.1.proposal
  holders : ownershipKept s → (∃ p ∈ s.proposal, p.state = .opened) →
    ∀ h, u.holdsLane h = decide (holdsNext s h)
  quiet : ∀ g bs, undisturbed s g → u.Tells g bs u.proposalBoundary.1 →
    (s.crossed b).host g = (s.host g).demoteBoth (misfits u.proposalBoundary.2) ∧
      toldAtBoundary s (s.boundaryTick b) g
        (bs ++ (s.host g).demotedTold (misfits u.proposalBoundary.2))
  books : ∀ f, u.proposalBoundary.2 = some f → ∀ h x, ((s.crossed b).book h x).FitsIdle [f]

theorem HostSet.holdsLane_of_works (works : ∀ l, (u.lane l).toLaneRecord.workedBy h = true ↔
    (s.lane l).worksNext h) : u.holdsLane h = decide (holdsNext s h) := by
  rw [Bool.eq_iff_iff, decide_eq_true_iff, State.holdsLane, List.any_eq_true]
  exact ⟨fun ⟨l, _, worked⟩ => ⟨l, (works l).1 worked⟩,
    fun ⟨l, holds⟩ => ⟨l, List.mem_finRange l, (works l).2 holds⟩⟩

/-- The agreement unit reacts once at each boundary, with an OPEN record after the lane table has reacted
on every lane (R147). -/
theorem State.exists_agreementAt (s : State) (b : BoundaryIn) : ∃ u, s.AgreementAt b u := by
  obtain ⟨before, after, order, fresh, freshAfter, cross⟩ :=
    s.enterFrame.crossBoundary_split b .agreement agreement_mem_everyBoundaryReaction
  have result : s.crossed b =
      (after.foldl Crossing.react
        ((before.foldl Crossing.react (s.begun b)).react .agreement)).state := cross
  have first := Crossing.foldl_sameAgreement fresh (s.begun b)
  have last := Crossing.foldl_sameAgreement freshAfter
    ((before.foldl Crossing.react (s.begun b)).react .agreement)
  refine ⟨(before.foldl Crossing.react (s.begun b)).state,
    ⟨first.timebase.trans (s.begun_timebase b), first.proposal.trans (s.begun_proposal b)⟩, ?_, ?_, ?_, ?_⟩
  · rw [result, last.timebase, last.proposal]
    exact ⟨by simp [Crossing.react, State.agreementBoundary],
      by simp [Crossing.react, State.agreementBoundary]⟩
  · rintro owned ⟨p, record, opened⟩ h
    have tables := (s.enterFrame.setRbk b.rbk).lanesBeforeAgreement_boundaryOrder b.order (by
      have begun : (s.enterFrame.setRbk b.rbk).proposal = s.proposal := s.begun_proposal b
      rw [begun, record, Option.map_some, opened])
    refine HostSet.holdsLane_of_works fun l => ?_
    have reacted : .lane l ∈ before := by
      rw [lanesBeforeAgreement, order, List.all_eq_true] at tables
      have mem := List.contains_iff_mem.1 (tables l (List.mem_finRange l))
      exact (before_split fresh).1 mem
    have begun := s.lane_begun b l
    rw [Crossing.workedBy_foldl reacted (s.begun b) (begun ▸ Lane.Owned.entered ?_ _), begun,
      Lane.worksNext_entered]
    intro handover
    obtain ⟨target, offer, -⟩ := offerOk_handover (owned l) handover
    have giver : (s.lane l).holder ≠ none := fun none => by
      rw [(owned l).1.2 none] at handover
      cases handover
    exact ⟨Option.isSome_iff_ne_none.2 giver, by rw [offer]; rfl⟩
  · intro g bs rest told
    obtain ⟨load, rests, quiet⟩ := rest
    have begun : (s.begun b).Hush g (· = .agreement) :=
      hush_begun (fun k _ => quiet k) (fun _ => load) (fun _ => rests) fun off => absurd rfl off
    obtain ⟨now, host, silent⟩ := begun.foldl (rs := before) fun q mem loud => fresh (loud ▸ mem)
    rw [State.host_begun] at host
    obtain ⟨then', hostThen, toldThen⟩ := now.agrees rfl (by simp) told
    obtain ⟨final, hostLast, silentLast⟩ :=
      then'.foldl (rs := after) fun q mem loud => freshAfter (loud ▸ mem)
    rw [host] at hostThen toldThen
    have hostCrossed : (s.crossed b).host g =
        (s.host g).demoteBoth
          (misfits (before.foldl Crossing.react (s.begun b)).state.proposalBoundary.2) := by
      rw [result, hostLast, hostThen]
    refine ⟨hostCrossed, notesTold_boundaryTick ?_ (State.told_boundaryTick
      (by rw [result]; exact (silent.quiet toldThen).then_quiet silentLast) fun k _ => ?_)⟩
    · rw [State.run, hostCrossed]
      exact (HostRecord.rests_demoteBoth _ rests).1
    · rw [result]
      exact (final.lanes k (by simp)).deaf
  · intro f agreed h x
    rw [result]
    exact ((FitsAfter.agreed agreed).foldl
      (by simpa using State.agreed_mem_lengthsRequired agreed) freshAfter).books h x

/-! ### The record's three ways at a boundary -/

/-- An AGREED record is applied: every host is told (R156). -/
theorem State.proposalBoundary_applied {p : Proposal} (record : s.proposal = some p)
    (agreed : p.state = .agreed) :
    s.proposalBoundary =
      ((s.setProposal none).postAll
        (allHosts.map fun h => (h, .frameLength p.newF s.timebase.frame)), none) := by
  simp only [State.proposalBoundary, record, agreed]

theorem State.tells_applied {p : Proposal} (record : s.proposal = some p) (agreed : p.state = .agreed)
    (g : HostId) :
    s.Tells g [.frameLength p.newF s.timebase.frame] s.proposalBoundary.1 := by
  rw [State.proposalBoundary_applied record agreed]
  have told := (s.setProposal none).tells_postAll
    (allHosts.map fun h => (h, .frameLength p.newF s.timebase.frame)) g
  have posts : State.postsFor g (allHosts.map fun h => (h, NoticeBody.frameLength p.newF s.timebase.frame)) =
      [.frameLength p.newF s.timebase.frame] := by
    have listed := postsOf_filter (P := fun _ => True) (p := fun _ => true) (by simp)
      (.frameLength p.newF s.timebase.frame)
    rw [List.filter_true] at listed
    rw [← listed]
    exact (postsOf_for _ g).trans (if_pos trivial)
  rw [posts] at told
  exact (State.Tells.of_port (s := s) (t := s.setProposal none) rfl rfl).quiet told

theorem HostRecord.misfits_none (r : HostRecord) :
    r.demoteBoth (misfits none) = r ∧ r.demotedTold (misfits none) = [] :=
  HostRecord.demoteBoth_of_none fun _ => rfl

/-- Settles O40. -/
theorem agreedLengthTaken : Obligations.AgreedLengthTaken := by
  intro b s next p record agreed length
  have record : s.proposal = some p := record
  have onlyAgreed : ∀ q ∈ s.proposal, q.state = .agreed := by
    rw [record]
    rintro q ⟨⟩
    exact agreed
  obtain ⟨timebase, cleared⟩ := State.nextLength_boundaryTick b onlyAgreed
  obtain ⟨u, at'⟩ := s.exists_agreementAt b
  refine ⟨_, exec_frameBoundary_next b next, ?_, ?_, fun g load rests none => ?_⟩
  · rw [timebase, Timebase.boundary, length]
    rfl
  · rw [State.boundaryTick_eq, State.arrive_proposal]
    exact cleared
  · have uRecord : u.proposal = some p := at'.before.2.trans record
    have told := State.tells_applied uRecord agreed g
    have whole := (at'.quiet g _ ⟨load, rests, quietLanes_of_noLane none⟩ told).2
    rw [State.proposalBoundary_applied uRecord agreed, (s.host g).misfits_none.2, at'.before.1] at whole
    exact whole

end Sys2Proof.Machine
end

section
/-!
PROOFS. O44: the agreement unit's reaction to a boundary with an OPEN record (R152, R154, R157).
-/

namespace Sys2Proof.Machine

open Sys2Proof.Safety

variable {s t u v : State} {l : LaneId} {g h : HostId} {x : BookId} {b : BoundaryIn} {p q : Proposal}

/-! ### The three ways of an OPEN record -/

theorem State.proposalBoundary_every (record : s.proposal = some p) (opened : p.state = .opened)
    (left : s.withoutLaneless p = q) (every : q.yes = q.voters) :
    s.proposalBoundary = (s.recordAgreed q, some q.newF) := by
  simp only [State.proposalBoundary, record, opened, left, if_pos every]

theorem State.proposalBoundary_waits (record : s.proposal = some p) (opened : p.state = .opened)
    (left : s.withoutLaneless p = q) (notEvery : q.yes ≠ q.voters) (wide : 2 ≤ q.window) :
    s.proposalBoundary = (s.setProposal (some { q with window := q.window - 1 }), none) := by
  have wide : ¬ q.window ≤ 1 := by omega
  simp only [State.proposalBoundary, record, opened, left, if_neg notEvery, if_neg wide]

/-- The ending of a record: its proposer and the voters left are told (R157). -/
def endingTold (p : Proposal) : Told := fun g =>
  if g = p.proposer ∨ HostSet.has p.voters g = true then [.proposalEnded .expired] else []

theorem State.proposalBoundary_expires (record : s.proposal = some p) (opened : p.state = .opened)
    (left : s.withoutLaneless p = q) (notEvery : q.yes ≠ q.voters) (last : q.window ≤ 1) :
    s.proposalBoundary =
      ((s.setProposal none).postAll (postsOf (endingTold q)), none) := by
  have opened' : q.state = .opened := by
    rw [← left]
    exact opened
  simp only [State.proposalBoundary, record, opened, left, if_neg notEvery, if_pos last]
  rw [State.endProposal_opened (s := s.setProposal (some q)) rfl opened']
  rfl

/-! ### Books -/

theorem State.books_crossed (s : State) (b : BoundaryIn) (h : HostId) (x : BookId)
    (still : (s.book h x).state ≠ .compiling) : ((s.crossed b).book h x).state ≠ .compiling := by
  refine State.host_crossBoundary_keeps (s := s.enterFrame)
    (P := fun g r => (s.book g x).state ≠ .compiling → (r.book x).state ≠ .compiling)
    (fun g r r' move law still => ?_) b (fun g => ?_) h still
  · cases move with
    | load =>
      have state : (r.loadBoundary.book x).state = (r.book x).state :=
        (Crossing.loadBoundary_like r).2.1 x
      rw [state]
      exact law still
    | run =>
      rcases r.runBoundary_book x with same | active | ⟨-, ready⟩
      · rw [same]
        exact law still
      · simp [active]
      · simp [ready]
    | demote y =>
      rw [HostRecord.book_demote]
      split
      · nofun
      · exact law still
  · rw [State.host_congr s.enterFrame_hosts]
    exact id

/-- A boundary leaves the cues of a book that no load is open into (R69, R71). -/
theorem State.cues_crossed (s : State) (b : BoundaryIn) (free : (s.host h).load.map (·.book) ≠ some x) :
    ((s.crossed b).book h x).cues = (s.book h x).cues := by
  refine ((s.sameStore_crossed b h).cues x).trans (congrArg Book.cues ?_)
  exact (Crossing.loadBoundary_like (s.host h)).2.2.2 x free

/-! ### O44 -/

theorem withVotersLeft_eq {p : Proposal} (holders : ∀ h, u.holdsLane h = decide (holdsNext s h)) :
    u.withoutLaneless p = withVotersLeft s p := by
  simp only [State.withoutLaneless, withVotersLeft, holders]

theorem State.holdsAfterBoundary_iff (s : State) (h : HostId) :
    s.holdsAfterBoundary h = true ↔ holdsNext s h := by
  simp [State.holdsAfterBoundary, holdsNext, LaneRecord.ownedBy, allLanes]

/-- A record whose last boundary it is, and which does not become AGREED at it (R152). -/
theorem State.expiresNext (record : s.proposal = some p) (opened : p.state = .opened)
    (last : p.window = 1) (notEvery : (withVotersLeft s p).yes ≠ (withVotersLeft s p).voters) :
    s.proposalExpiresNext = true := by
  have missing : ∃ h, HostSet.has (withVotersLeft s p).yes h ≠ HostSet.has (withVotersLeft s p).voters h := by
    by_contra none
    exact notEvery (HostSet.ext_has fun h => by_contra fun other => none ⟨h, other⟩)
  obtain ⟨h, differ⟩ := missing
  simp only [withVotersLeft, HostSet.has_ofTest] at differ
  simp only [State.proposalExpiresNext, record, opened, last, beq_self_eq_true, Bool.true_and,
    List.any_eq_true, Bool.and_eq_true, State.holdsAfterBoundary_iff]
  refine ⟨h, mem_allHosts h, ?_⟩
  by_cases holds : holdsNext s h
  · refine ⟨holds, ?_⟩
    simp only [holds, decide_true, Bool.and_true] at differ
    simpa using Ne.symm differ
  · simp [holds] at differ

theorem exec_proposalExpiry (b : BoundaryIn) (next : boundaryNext s)
    (expires : s.proposalExpiresNext = true) :
    exec (.proposalExpiry b) s = .next (s.boundaryTick b) := by
  change execProposalExpiry b s = _
  rw [execProposalExpiry, if_pos (by rw [s.atBoundary_iff.2 next, expires]; rfl)]

/-- Settles O44. -/
theorem proposalExpires : Obligations.ProposalExpires := by
  intro b s next owned p record opened
  have record : s.proposal = some p := record
  obtain ⟨u, at'⟩ := s.exists_agreementAt b
  have uRecord : u.proposal = some p := at'.before.2.trans record
  have left := withVotersLeft_eq (p := p) (at'.holders owned ⟨p, record, opened⟩)
  have timebase : (s.boundaryTick b).timebase = u.proposalBoundary.1.timebase :=
    (s.boundaryTick_timebase b).trans at'.after.1
  have proposal : (s.boundaryTick b).proposal = u.proposalBoundary.1.proposal :=
    (State.arrive_proposal _ _).trans at'.after.2
  have begun := at'.before.1
  refine ⟨fun every => ?_, fun notEvery wide => ?_, fun notEvery last => ?_⟩
  · have step := State.proposalBoundary_every uRecord opened left every
    refine ⟨_, exec_frameBoundary_next b next, ?_, ?_, s.boundaryTick_jobs b, fun k rest => ?_,
      fun k x _ free idle => ?_⟩
    · rw [proposal, step]
      rfl
    · rw [timebase, step, State.recordAgreed]
      change ({ u.timebase with nextLength := _ } : Timebase) = _
      rw [begun]
      rfl
    · have told : u.Tells k [] u.proposalBoundary.1 := by
        rw [step]
        exact .of_port rfl rfl
      obtain ⟨host, whole⟩ := at'.quiet k [] rest told
      rw [step] at host whole
      rw [State.host_boundaryTick, host, (demotedBy_eq_both _ _).1, (demotedBy_eq_both _ _).2]
      exact ⟨rfl, whole⟩
    · rw [State.book_boundaryTick]
      have fits := at'.books p.newF (by rw [step]; rfl) k x
      have notCompiling := s.books_crossed b k x (by
        rcases List.mem_pair.1 idle with state | state <;> simp [state])
      cases state : ((s.crossed b).book k x).state with
      | draft => exact .inr (by simp)
      | active => exact .inr (by simp)
      | compiling => exact absurd state notCompiling
      | ready =>
        have fits := fits (.inl state) _ (List.mem_singleton_self _)
        rw [Book.fits, s.cues_crossed b free] at fits
        exact .inl (List.all_eq_true.1 fits)
      | pending =>
        have fits := fits (.inr state) _ (List.mem_singleton_self _)
        rw [Book.fits, s.cues_crossed b free] at fits
        exact .inl (List.all_eq_true.1 fits)
  · have step := State.proposalBoundary_waits uRecord opened left notEvery wide
    refine ⟨_, exec_frameBoundary_next b next, ?_, ?_, s.boundaryTick_jobs b, fun k rest => ?_⟩
    · rw [proposal, step]
      rfl
    · rw [timebase, step]
      exact begun
    · have told : u.Tells k [] u.proposalBoundary.1 := by
        rw [step]
        exact .of_port rfl rfl
      obtain ⟨host, whole⟩ := at'.quiet k [] rest told
      rw [step, (HostRecord.misfits_none _).1] at host
      rw [step, (HostRecord.misfits_none _).2] at whole
      rw [State.host_boundaryTick]
      exact ⟨host, whole⟩
  · have step := State.proposalBoundary_expires uRecord opened left notEvery (le_of_eq last)
    refine ⟨_, exec_proposalExpiry b next (State.expiresNext record opened last notEvery), ?_, ?_,
      s.boundaryTick_jobs b, fun k rest => ?_⟩
    · rw [proposal, step, State.postAll_proposal]
      rfl
    · rw [timebase, step, State.postAll_timebase]
      exact begun
    · have told :=
        State.tells_postAll (u.setProposal none) (postsOf (endingTold (withVotersLeft s p))) k
      rw [State.postsFor, postsOf_for] at told
      have told : u.Tells k (endingTold (withVotersLeft s p) k) u.proposalBoundary.1 := by
        rw [step]
        exact (State.Tells.of_port (s := u) (t := u.setProposal none) rfl rfl).quiet told
      obtain ⟨host, whole⟩ := at'.quiet k _ rest told
      rw [step, (HostRecord.misfits_none _).1] at host
      rw [step, (HostRecord.misfits_none _).2, List.append_nil] at whole
      rw [State.host_boundaryTick]
      exact ⟨host, whole⟩

end Sys2Proof.Machine
end

section
/-!
PROOFS. What the lane table's and the monitor's reactions to a boundary tell a host that nothing else
concerns (R33, R139, R175).
-/

namespace Sys2Proof.Machine

open Sys2Proof.Safety

variable {s t u : State} {l : LaneId} {g h : HostId} {x y : Lane} {b : BoundaryIn}

/-- Nothing but lane `l` can tell host `g` anything at the coming boundary. -/
structure State.OnlyLane (s : State) (l : LaneId) (g : HostId) : Prop where
  proposal : s.proposal = none
  load : (s.host g).load = none
  rests : notRunning s g
  lanes : noLaneBut s g l

/-- The reactions of lane `l`. -/
def BoundaryReaction.ofLane (l : LaneId) (r : BoundaryReaction) : Prop := r = .lane l ∨ r = .check l

/-- A reaction of the loud lane tells what it posts. -/
theorem Crossing.Hush.reacts {c : Crossing} (hush : c.Hush g (BoundaryReaction.ofLane l))
    {r : BoundaryReaction} {f : Lane → Lane × Posts}
    (result : c.react r = { c with state := c.state.reactLane l f })
    (isLane : r = .lane l ∨ r = .check l) :
    (c.react r).Hush g (BoundaryReaction.ofLane l) ∧
      c.state.Tells g (State.postsFor g (f (c.state.lane l)).2) (c.react r).state := by
  refine ⟨?_, by rw [result]; exact State.tells_reactLane c.state l f g⟩
  rcases isLane with rfl | rfl
  · exact hush.lane l
  · exact hush.check l

/-- The two reactions of a lane, in either order, among those of everything else. -/
theorem State.two_reactions {front middle back : List BoundaryReaction} {p q : BoundaryReaction}
    {first second : Lane → Lane × Posts}
    (order : (s.enterFrame.setRbk b.rbk).boundaryOrder b.order = front ++ p :: (middle ++ q :: back))
    (fresh : ∀ ys ∈ [front, middle, back], .lane l ∉ ys ∧ .check l ∉ ys)
    (isP : BoundaryReaction.ofLane l p) (isQ : BoundaryReaction.ofLane l q)
    (reactsP : ∀ c : Crossing, c.state.timebase.frame = s.timebase.frame + 1 → c.state.rbk = b.rbk →
      c.react p = { c with state := c.state.reactLane l first })
    (reactsQ : ∀ c : Crossing, c.state.timebase.frame = s.timebase.frame + 1 → c.state.rbk = b.rbk →
      c.react q = { c with state := c.state.reactLane l second })
    (entered : (s.lane l).entered s.timebase.f = x) :
    (s.crossed b).lane l = (second (first x).1).1 ∧
      ∀ g, s.OnlyLane l g →
        (s.crossed b).host g = s.host g ∧ (∀ k, k ≠ l → ((s.crossed b).lane k).restFor g) ∧
          (s.begun b).state.Tells g
            (State.postsFor g ((first x).2 ++ (second (first x).1).2)) (s.crossed b) := by
  simp only [List.mem_cons, List.not_mem_nil, or_false, forall_eq_or_imp, forall_eq] at fresh
  obtain ⟨freshFront, freshMiddle, freshBack⟩ := fresh
  have result : s.crossed b =
      (back.foldl Crossing.react ((middle.foldl Crossing.react
        ((front.foldl Crossing.react (s.begun b)).react p)).react q)).state := by
    rw [State.crossed, State.crossBoundary]
    rw [order, List.foldl_append, List.foldl_cons, List.foldl_append, List.foldl_cons]
    rfl
  generalize first' : front.foldl Crossing.react (s.begun b) = c at result
  generalize second' : middle.foldl Crossing.react (c.react p) = d at result
  have lane : c.state.lane l = x := by
    rw [← first', Crossing.lane_foldl_other freshFront.1 freshFront.2, State.lane_begun, entered]
  have now : c.state.timebase.frame = s.timebase.frame + 1 ∧ c.state.rbk = b.rbk := by
    have kept := Crossing.foldl_frame front (s.begun b)
    rw [first', State.begun_timebase] at kept
    exact kept
  have later : d.state.timebase.frame = s.timebase.frame + 1 ∧ d.state.rbk = b.rbk := by
    have kept := Crossing.foldl_frame middle (c.react p)
    rw [second', (c.react_frame p).1, (c.react_frame p).2] at kept
    exact ⟨kept.1.trans now.1, kept.2.trans now.2⟩
  have reactP := reactsP c now.1 now.2
  have reactQ := reactsQ d later.1 later.2
  have laneP : (c.react p).state.lane l = (first x).1 := by
    rw [reactP]
    exact (State.lane_reactLane _ _ _ _).trans ((if_pos rfl).trans (by rw [lane]))
  have laneD : d.state.lane l = (first x).1 := by
    rw [← second', Crossing.lane_foldl_other freshMiddle.1 freshMiddle.2, laneP]
  have laneQ : (d.react q).state.lane l = (second (first x).1).1 := by
    rw [reactQ]
    exact (State.lane_reactLane _ _ _ _).trans ((if_pos rfl).trans (by rw [laneD]))
  refine ⟨by rw [result, Crossing.lane_foldl_other freshBack.1 freshBack.2, laneQ], fun g only => ?_⟩
  have quiet {rs : List BoundaryReaction} (fresh : .lane l ∉ rs ∧ .check l ∉ rs) :
      ∀ r ∈ rs, ¬ BoundaryReaction.ofLane l r := by
    rintro r mem (rfl | rfl)
    · exact fresh.1 mem
    · exact fresh.2 mem
  have begun : (s.begun b).Hush g (BoundaryReaction.ofLane l) := by
    refine hush_begun (fun k off => .inl (only.lanes k fun same => ?_)) (fun _ => only.load)
      (fun _ => only.rests) fun _ => only.proposal
    subst same
    exact off ⟨.inl rfl, .inr rfl⟩
  obtain ⟨hushC, hostC, toldC⟩ := begun.foldl (quiet freshFront)
  rw [first'] at hushC hostC toldC
  obtain ⟨hushP, toldP⟩ := hushC.reacts reactP isP
  obtain ⟨hushD, hostD, toldD⟩ := hushP.foldl (quiet freshMiddle)
  rw [second'] at hushD hostD toldD
  obtain ⟨hushQ, toldQ⟩ := hushD.reacts reactQ isQ
  obtain ⟨hushLast, hostLast, toldLast⟩ := hushQ.foldl (quiet freshBack)
  rw [← result] at hostLast toldLast
  have hostP : (c.react p).state.host g = c.state.host g := by
    rw [reactP]
    simp [State.host]
  have hostQ : (d.react q).state.host g = d.state.host g := by
    rw [reactQ]
    simp [State.host]
  refine ⟨?_, fun k other => ?_, ?_⟩
  · rw [hostLast, hostQ, hostD, hostP, hostC, State.host_begun]
  · rw [result]
    refine hushLast.lanes k ?_
    rintro ⟨same | same, -⟩
    · exact other (by simpa using same)
    · cases same
  · rw [lane] at toldP
    rw [laneD] at toldQ
    rw [State.postsFor_append]
    exact ((((toldC.quiet toldP).then_quiet toldD).trans toldQ)).then_quiet toldLast

/-- One lane over the reactions to a boundary, and what they tell a host that nothing else concerns. -/
theorem State.lane_tells (s : State) (b : BoundaryIn) (l : LaneId) :
    ∃ first : Bool,
      (s.crossed b).lane l =
        (Lane.crossed l (s.timebase.frame + 1) (b.rbk.getLsbD l.val) first
          ((s.lane l).entered s.timebase.f)).1 ∧
      ∀ g, s.OnlyLane l g →
        (s.crossed b).host g = s.host g ∧ (∀ k, k ≠ l → ((s.crossed b).lane k).restFor g) ∧
          (s.begun b).state.Tells g
            (State.postsFor g (Lane.crossed l (s.timebase.frame + 1) (b.rbk.getLsbD l.val) first
              ((s.lane l).entered s.timebase.f)).2) (s.crossed b) := by
  obtain ⟨front, middle, back, p, q, which, order, fresh⟩ :=
    (s.enterFrame.setRbk b.rbk).boundaryOrder_cut b l
  have table (c : Crossing) (_ : c.state.timebase.frame = s.timebase.frame + 1) (_ : c.state.rbk = b.rbk) :
      c.react (.lane l) = { c with state := c.state.reactLane l (Lane.atBoundary l) } := rfl
  have check (c : Crossing) (frame : c.state.timebase.frame = s.timebase.frame + 1)
      (rbk : c.state.rbk = b.rbk) :
      c.react (.check l) =
        { c with
          state := c.state.reactLane l
            (Lane.boundaryCheck l (s.timebase.frame + 1) (b.rbk.getLsbD l.val)) } := by
    rw [← frame, ← rbk]
    rfl
  rcases which with ⟨rfl, rfl⟩ | ⟨rfl, rfl⟩
  · exact ⟨true, State.two_reactions order fresh (.inl rfl) (.inr rfl) table check rfl⟩
  · exact ⟨false, State.two_reactions order fresh (.inr rfl) (.inl rfl) check table rfl⟩

/-- The same over the whole tick, where no check of the lane at position 0 can tell the host anything. -/
theorem State.lane_told (s : State) (b : BoundaryIn) (l : LaneId) :
    ∃ first : Bool,
      (s.crossed b).lane l =
        (Lane.crossed l (s.timebase.frame + 1) (b.rbk.getLsbD l.val) first
          ((s.lane l).entered s.timebase.f)).1 ∧
      ∀ g, s.OnlyLane l g →
        (((s.crossed b).lane l).check = some 0 → ((s.crossed b).lane l).deafTo g) →
          toldAtBoundary s (s.boundaryTick b) g
            (State.postsFor g (Lane.crossed l (s.timebase.frame + 1) (b.rbk.getLsbD l.val) first
              ((s.lane l).entered s.timebase.f)).2) := by
  obtain ⟨first, lane, tells⟩ := s.lane_tells b l
  refine ⟨first, lane, fun g only deaf => ?_⟩
  obtain ⟨host, others, told⟩ := tells g only
  refine notesTold_boundaryTick ?_ (State.told_boundaryTick told fun k due => ?_)
  · rw [State.run, host]
    exact only.rests.1
  · by_cases same : k = l
    · subst same
      exact deaf due
    · exact (others k same).deaf

end Sys2Proof.Machine
end

section
/-!
PROOFS. O38 and O41: the lane table at a boundary, and an offer that runs out (R26, R29, R33, R126, R130).
-/

namespace Sys2Proof.Machine

open Sys2Proof.Safety

variable {s t u : State} {l : LaneId} {g h k : HostId} {x y : Lane} {f : Word32} {bit first : Bool}
  {b : BoundaryIn} {o : Offer}

/-! ### What the lane table tells -/

namespace Lane

/-- A lane that has been handed over waits for its own check (R130, R139). -/
theorem boundaryCheck_handOver (x : Lane) (target : HostId) :
    Lane.boundaryCheck l f bit (x.handOver target) = (x.handOver target, []) := by
  by_cases readback : x.settings.readback = true
  · exact boundaryCheck_of_pending (by simp [Lane.handOver_eq, readback])
  · exact boundaryCheck_of_unwatched (by simp [Lane.handOver_eq, Lane.watched, readback])

theorem handOver_notDue (settle : 1 ≤ x.settings.settle) (target : HostId) :
    (x.handOver target).check ≠ some 0 := by
  rw [Lane.handOver_eq]
  dsimp only
  split
  · simp
    omega
  · nofun

theorem crossed_of_retiring (retiring : x.state = .retiring) (unwatched : x.watched = false) :
    Lane.crossed l f bit first x = (x.freed, x.holder.toList.map fun g => (g, .laneFreed l)) := by
  rw [crossed_of_no_check (boundaryCheck_of_unwatched unwatched), atBoundary_retiring retiring]
  rw [atBoundary_retiring retiring, boundaryCheck_of_unwatched (watched_of_noHolder rfl)]

theorem crossed_of_handover (handover : x.state = .handover) (offer : x.offer = some o)
    (holder : x.holder = some g) (unwatched : x.watched = false) :
    Lane.crossed l f bit first x =
      (x.handOver o.target,
        [(g, .handoverDone l g o.target), (o.target, .handoverDone l g o.target)]) := by
  rw [crossed_of_no_check (boundaryCheck_of_unwatched unwatched),
    atBoundary_handover handover offer holder]
  rw [atBoundary_handover handover offer holder, boundaryCheck_handOver]

end Lane

theorem State.told_freed (only : s.OnlyLane l k) (b : BoundaryIn) (unwatched : (s.lane l).watched = false)
    (retiring : (s.lane l).state = .retiring) (holder : (s.lane l).holder = some k) :
    toldAtBoundary s (s.boundaryTick b) k [.laneFreed l] := by
  obtain ⟨state, holder', -, -, -, -, watched⟩ := (s.lane l).entered_keeps s.timebase.f
  obtain ⟨first, lane, told⟩ := s.lane_told b l
  rw [Lane.crossed_of_retiring (state.trans retiring) (watched.trans unwatched)] at lane told
  have told := told k only (by rw [lane]; nofun)
  rwa [State.postsFor_toList, if_pos (holder'.trans holder)] at told

theorem State.told_handedOver (only : s.OnlyLane l k) (b : BoundaryIn)
    (unwatched : (s.lane l).watched = false) (handover : (s.lane l).state = .handover)
    (offer : (s.lane l).offer = some o) (holder : (s.lane l).holder = some g) (apart : g ≠ o.target)
    (party : k = g ∨ k = o.target) (settle : 1 ≤ (s.lane l).settings.settle) :
    toldAtBoundary s (s.boundaryTick b) k [.handoverDone l g o.target] := by
  obtain ⟨state, holder', settings, -, offer', -, watched⟩ := (s.lane l).entered_keeps s.timebase.f
  obtain ⟨first, lane, told⟩ := s.lane_told b l
  rw [Lane.crossed_of_handover (state.trans handover) (offer'.trans offer) (holder'.trans holder)
    (watched.trans unwatched)] at lane told
  have notDue : ((s.crossed b).lane l).check ≠ some 0 := by
    rw [lane]
    exact Lane.handOver_notDue (by rwa [settings]) _
  have told := told k only fun due => absurd due notDue
  have posts : State.postsFor k
      [(g, NoticeBody.handoverDone l g o.target), (o.target, .handoverDone l g o.target)] =
      [.handoverDone l g o.target] := by
    rcases party with rfl | rfl
    · simp [State.postsFor, apart.symm]
    · simp [State.postsFor, apart]
  rwa [posts] at told

/-! ### O38 -/

/-- Settles O38. -/
theorem boundaryLanes : Obligations.BoundaryLanes := by
  intro l b s next
  refine ⟨_, exec_frameBoundary_next b next, State.boundary_free b, fun retiring => ?_,
    fun idle level => State.boundary_still b idle level next, fun held => ?_, fun offered o offer => ?_,
    fun handover o offer g holder settle => ?_, fun own none given => ⟨fun p staged settle => ?_, ?_, ?_⟩,
    fun k noProposal load rests others unwatched =>
      ⟨fun retiring holder => ?_, fun handover o offer g holder apart party settle => ?_⟩⟩
  · obtain ⟨y, settings, lane⟩ := State.boundary_retiring b retiring
    rw [lane, State.afterDrive, Lane.arrive_eq]
    refine ⟨rfl, rfl, rfl, rfl, rfl, rfl, settings, ?_⟩
    simp [Lane.freed, Lane.watched]
  · obtain ⟨pending, settings, holder⟩ := State.boundary_given b (.inl held)
    exact ⟨State.boundary_held b held, holder, pending, settings⟩
  · obtain ⟨pending, settings, -⟩ := State.boundary_given b (.inr offered)
    exact ⟨pending, settings, fun n remaining more noneStaged unwatched =>
      State.boundary_counts b offered offer remaining more noneStaged unwatched⟩
  · obtain ⟨y, settings, crossed, lane⟩ := State.boundary_handOver b handover offer holder settle
    refine ⟨?_, ?_, ?_, ?_, ?_, ?_, ?_, ?_, fun none => ?_⟩
    case refine_9 =>
      have noPulse : ((s.crossed b).lane l).pulseEnd = .none := by
        rw [crossed, Lane.handOver_eq]
      have notDue : ((s.crossed b).lane l).check ≠ some 0 := by
        rw [crossed]
        exact Lane.handOver_notDue (by rwa [settings]) _
      rw [State.lane_boundaryTick_still none noPulse notDue, crossed, Lane.handOver_eq, settings]
      exact ⟨rfl, rfl, rfl⟩
    all_goals rw [lane, State.afterDrive, Lane.arrive_eq, Lane.handOver_eq]
    exact settings
  · obtain ⟨took, sound⟩ := State.boundary_took b own none given staged settle
    exact ⟨took.still.1, took.still.2, took.check, sound⟩
  · intro noneStaged ends level settle
    obtain ⟨still, check⟩ := State.boundary_pulseEnd b none given noneStaged ends level settle
    exact ⟨still.1, still.2, check⟩
  · intro noneStaged noPulse quiet later
    rw [State.boundary_unstaged b none given noneStaged noPulse quiet later]
    refine ⟨fun held => ?_, fun offered o offer n remaining more => ?_⟩
    · rw [Lane.atBoundary_of_held (x := (s.lane l).tick) held noneStaged]
      rfl
    · rw [Lane.atBoundary_of_offered (x := (s.lane l).tick) offered noneStaged,
        Lane.countOffer_of_two_le (x := (s.lane l).tick) offer remaining more]
      rfl
  · exact State.told_freed ⟨noProposal, load, rests, others⟩ b unwatched retiring holder
  · exact State.told_handedOver ⟨noProposal, load, rests, others⟩ b unwatched handover offer holder apart
      party settle

/-! ### O41 -/

/-- The lane is HELD with no offer. -/
def Lane.InHand (x : Lane) : Prop := x.state = .held ∧ x.offer = none

namespace Lane

theorem InHand.compare (inHand : x.InHand) (p : Nat) : (Lane.compare l f p bit x).1.InHand := by
  have notOffered : x.state ≠ .offered := by simp [inHand.1]
  unfold Lane.compare
  split
  · exact ⟨(fault_state notOffered p).trans inHand.1, (fault_offer notOffered p).trans inHand.2⟩
  · exact inHand

theorem InHand.boundaryCheck (inHand : x.InHand) : (Lane.boundaryCheck l f bit x).1.InHand := by
  unfold Lane.boundaryCheck
  split
  · exact inHand.compare 0
  · exact inHand

theorem applySettings_inHand (inHand : x.InHand) : x.applySettings.InHand :=
  ⟨x.applySettings_settings.2.2.2.1.trans inHand.1, x.applySettings_offer.trans inHand.2⟩

/-- The boundary that uses an offer up (R126). -/
theorem countOffer_of_last (offer : x.offer = some o) (remaining : o.remaining = some 1) :
    x.countOffer l =
      ({ x with state := .held, offer := none },
        (x.holder.toList.map fun g => (g, .offerEnded l .expired)) ++
          [(o.target, .offerEnded l .expired)]) := by
  obtain ⟨target, _⟩ := o
  cases remaining
  simp [Lane.countOffer, offer]

/-- An offer that is used up is gone after both reactions: it expires, or a fault has ended it (R126,
R131). -/
theorem crossed_inHand (offered : x.state = .offered) (offer : x.offer = some o)
    (remaining : o.remaining = some 1) : (Lane.crossed l f bit first x).1.InHand := by
  have table : (Lane.atBoundary l x).1.InHand := by
    rw [atBoundary_offered offered, countOffer_of_last offer remaining]
    exact applySettings_inHand ⟨rfl, rfl⟩
  unfold Lane.crossed
  split
  · exact table.boundaryCheck
  · rcases boundaryCheck_cases l f bit x with same | ⟨-, -, -, fault⟩
    · rw [same]
      exact table
    · have inHand : (x.fault l f 0 bit).1.InHand := by
        simp only [Lane.fault, offered, offer]
        exact ⟨rfl, rfl⟩
      rw [fault]
      dsimp only
      rw [atBoundary_held inHand.1]
      exact applySettings_inHand inHand

end Lane

theorem State.inHand_arrive (i : ArrivalIn) (inHand : (s.lane l).InHand) :
    ((s.arrive i).lane l).InHand := by
  have drive {x : Lane} (inHand : x.InHand) : (s.afterDrive l x).InHand := by
    rw [State.afterDrive, Lane.arrive_eq]
    exact inHand
  have check {x : Lane} (inHand : x.InHand) : (s.afterCheck i l x).InHand := by
    unfold State.afterCheck
    split
    · exact inHand.compare _
    · exact inHand
  have take : (s.lane l).takeDue.InHand := by
    unfold Lane.takeDue
    split <;> exact inHand
  rw [State.lane_arrive]
  split
  · exact check (drive take)
  · exact drive (check take)

theorem exec_offerExpiry (b : BoundaryIn) (next : boundaryNext s) (offered : (s.lane l).state = .offered)
    (offer : (s.lane l).offer = some o) (remaining : o.remaining = some 1) :
    exec (.offerExpiry l b) s = .next (s.boundaryTick b) := by
  change execOfferExpiry l b s = _
  rw [execOfferExpiry, if_pos]
  simp [s.atBoundary_iff.2 next, State.offerRunsOut, offered, offer, remaining]

/-- An offer that runs out on a lane that is not watched is told to giver and target (R126). -/
theorem State.told_expired (only : s.OnlyLane l g) (b : BoundaryIn)
    (unwatched : (s.lane l).watched = false) (noneStaged : (s.lane l).pending = none)
    (offered : (s.lane l).state = .offered) (offer : (s.lane l).offer = some o)
    (remaining : o.remaining = some 1) (party : g = o.target ∨ (s.lane l).holder = some g)
    (apart : (s.lane l).holder ≠ some o.target) :
    toldAtBoundary s (s.boundaryTick b) g [.offerEnded l .expired] := by
  obtain ⟨state, holder, -, pending, offer', -, watched⟩ := (s.lane l).entered_keeps s.timebase.f
  obtain ⟨first, lane, told⟩ := s.lane_told b l
  have step : Lane.crossed l (s.timebase.frame + 1) (b.rbk.getLsbD l.val) first
      ((s.lane l).entered s.timebase.f) = ((s.lane l).entered s.timebase.f).countOffer l := by
    rw [Lane.crossed_unstaged (.inr (state.trans offered)) (pending.trans noneStaged)
      (.inl (watched.trans unwatched)),
      Lane.atBoundary_of_offered (state.trans offered) (pending.trans noneStaged)]
  rw [step] at lane told
  have told := told g only fun _ => .inr (by
    rw [lane, (Lane.countOffer_check l _).2.1]
    exact watched.trans unwatched)
  rw [Lane.countOffer_of_last (offer'.trans offer) remaining, holder, State.postsFor_append,
    State.postsFor_toList, State.postsFor_singleton] at told
  rcases party with rfl | own
  · rwa [if_neg apart, if_pos rfl] at told
  · have other : o.target ≠ g := fun same => apart (by rw [own, same])
    rwa [if_pos own, if_neg other] at told

/-- Settles O41. -/
theorem offerExpires : Obligations.OfferExpires := by
  intro l b s next offered o offer remaining
  have offer : (s.lane l).offer = some o := offer
  obtain ⟨pending, settings, holder⟩ := State.boundary_given (s := s) b (.inr offered)
  obtain ⟨-, position, frame, -⟩ := s.boundaryTick_clock b
  have inHand : ((s.boundaryTick b).lane l).InHand := by
    obtain ⟨first, crossed⟩ := s.lane_crossed b l
    obtain ⟨state, -, -, -, offer', -, -⟩ := (s.lane l).entered_keeps s.timebase.f
    refine State.inHand_arrive (s := s.crossed b) b.start ?_
    rw [crossed]
    exact Lane.crossed_inHand (state.trans offered) (offer'.trans offer) remaining
  exact ⟨_, exec_offerExpiry b next offered offer remaining, inHand.1, inHand.2, holder, pending, settings,
    frame, position, s.boundaryTick_jobs b,
    fun g party apart noProposal load rests others unwatched noneStaged =>
      State.told_expired ⟨noProposal, load, rests, others⟩ b unwatched noneStaged offered offer remaining
        party apart⟩

end Sys2Proof.Machine
end

section
/-!
PROOFS. O36: a readback check at an arrival and at the boundary (R15, R131, R138 to R140, R144).
-/

namespace Sys2Proof.Machine

open Sys2Proof.Safety

variable {s t u : State} {l : LaneId} {g h k : HostId} {x y : Lane} {f : Word32} {bit first : Bool}
  {b : BoundaryIn} {i : ArrivalIn}

/-! ### One check -/

theorem LaneRecord.pinShows (x : LaneRecord) : pinShows x := by
  refine ⟨fun high => ?_, fun low => ?_⟩
  · simp [LaneRecord.pin, high]
  · simp [LaneRecord.pin, low]

/-- A check of a watched lane: nothing, or the fault (R138, R140). -/
theorem Lane.compare_watched (watched : x.watched = true) (own : laneOwnershipOk x.toLaneRecord)
    (f : Word32) (p : Nat) (bit : Bool) :
    (Lane.compare l f p bit x).1 = (if bit = x.pin then x else faulted x f p bit) ∧
      ∀ g, State.postsFor g (Lane.compare l f p bit x).2 =
        if bit = x.pin then [] else faultTold l x.toLaneRecord g := by
  by_cases same : bit = x.pin
  · rw [Lane.compare_of_match (by simp [same])]
    exact ⟨(if_pos same).symm, fun _ => (if_pos same).symm⟩
  · rw [Lane.compare_of_mismatch watched (Ne.symm same)]
    exact ⟨(Lane.fault_fst x own f p bit).trans (if_neg same).symm,
      fun g => (Lane.fault_told x own f p bit g).trans (if_neg same).symm⟩

/-! ### A check that falls due at an arrival -/

/-- A lane whose check falls due, once the drivers have worked on it. -/
theorem State.afterDrive_due (s : State) (hosts : t.hosts = s.hosts) (timebase : t.timebase = s.timebase)
    (watched : (s.lane l).watched = true) :
    t.afterDrive l { s.lane l with check := none } = drivenWatched (s.lane l) (drivenTo s l) := by
  rw [State.afterDrive_congr hosts timebase, State.afterDrive_self]
  simp only [drivenWatched, watched, and_true]

/-- The drivers leave a faulted lane (R113). -/
theorem State.afterDrive_faulted (s : State) (x : Lane) (f : Word32) (p : Nat) (bit : Bool) :
    s.afterDrive l (faulted x f p bit) = faulted x f p bit := by
  rw [State.afterDrive, State.startingOn_faulted rfl, Lane.arrive_eq]
  simp [LaneRecord.afterPulseEnd, faulted]

/-- A lane at the arrival at which its check falls due: the check and the change, in the one order or the
other (R138). -/
theorem State.lane_arrive_due (i : ArrivalIn) (due : (t.lane l).check = some 0)
    (take : (t.lane l).takeDue = { x with check := none }) (watched : x.watched = true)
    (own : laneOwnershipOk x.toLaneRecord) {d : Bool × Option Nat}
    (driven : t.afterDrive l { x with check := none } = drivenWatched x d) :
    (t.arrive i).lane l =
      if i.rbk.getLsbD l.val = (if changeFirst i.order l = true then drivenWatched x d else x).pin then
        drivenWatched x d
      else
        faulted (if changeFirst i.order l = true then drivenWatched x d else x) t.timebase.frame
          t.timebase.position (i.rbk.getLsbD l.val) := by
  have check {y : Lane} (watched : y.watched = true) (own : laneOwnershipOk y.toLaneRecord) :
      t.afterCheck i l y =
        if i.rbk.getLsbD l.val = y.pin then y
        else faulted y t.timebase.frame t.timebase.position (i.rbk.getLsbD l.val) := by
    rw [State.afterCheck, if_pos due]
    exact (Lane.compare_watched watched own _ _ _).1
  rw [State.lane_arrive, take, driven]
  by_cases order : changeFirst i.order l = true
  · simp only [if_pos order]
    exact check watched own
  · simp only [if_neg order]
    rw [check (y := { x with check := none }) watched own]
    by_cases same : i.rbk.getLsbD l.val = x.pin
    · rw [if_pos same, if_pos same]
      exact driven
    · rw [if_neg same, if_neg same]
      exact State.afterDrive_faulted _ _ _ _ _

/-- What an arrival tells of a check that falls due at it, to a host that no other check and no cue
concerns (R131, R144). -/
theorem State.told_arrive_due (i : ArrivalIn) (due : (t.lane l).check = some 0)
    (take : (t.lane l).takeDue = { x with check := none }) (watched : x.watched = true)
    (own : laneOwnershipOk x.toLaneRecord) {d : Bool × Option Nat}
    (driven : t.afterDrive l { x with check := none } = drivenWatched x d)
    (alone : ∀ k, k ≠ l → (t.lane k).check = some 0 → (t.lane k).deafTo g) (noNotes : notesTold t g = []) :
    t.Tells g
      (if i.rbk.getLsbD l.val = (if changeFirst i.order l = true then drivenWatched x d else x).pin then []
      else faultTold l x.toLaneRecord g) (t.arrive i) := by
  have told := State.tells_arrive_check i l due alone noNotes
  rw [take, driven] at told
  by_cases order : changeFirst i.order l = true
  · simp only [if_pos order] at told ⊢
    rwa [(Lane.compare_watched (x := drivenWatched x d) watched own _ _ _).2 g] at told
  · simp only [if_neg order] at told ⊢
    rwa [(Lane.compare_watched (x := { x with check := none }) watched own _ _ _).2 g] at told

theorem notesTold_of_noNotes (none : ∀ c ∈ s.dueCues g, c.action ≠ .note) : notesTold s g = [] := by
  rw [notesTold, List.filter_eq_nil_iff.2 fun c mem => by simpa using none c mem, List.map_nil]

theorem exec_readbackCheck (b : BoundaryIn) (due : (s.lane l).check = some 1) :
    exec (.readbackCheck l b) s = .next (s.tick b) := by
  change execReadbackCheck l b s = _
  rw [execReadbackCheck, if_pos due]

theorem Lane.takeDue_of_due (due : x.check = some 0) : x.takeDue = { x with check := none } := if_pos due

/-! ### A check that falls due at position 0 -/

/-- A lane that is HELD and has nothing to apply, with the check that falls due at position 0. -/
theorem Lane.entered_due (due : x.check = some 1) (noPulse : x.pulseEnd = none) (p : Nat) :
    x.entered p = { x with check := some 0 } := by
  rw [Lane.entered_of_runs (by simp [noPulse]), due]
  rfl

theorem Lane.crossed_due (held : x.state = .held) (noneStaged : x.pending = none) :
    Lane.crossed l f bit first { x with check := some 0 } = ({ x with check := some 0 }, []) := by
  rw [Lane.crossed_unstaged (x := { x with check := some 0 }) (.inl held) noneStaged (.inr (by simp)),
    Lane.atBoundary_of_held (x := { x with check := some 0 }) held noneStaged]

theorem State.drives_nothing (b : BoundaryIn) (noCue : noneAtZero s l) (noPulse : x.pulseEnd = none) :
    (s.crossed b).afterDrive l { x with check := none } = drivenWatched x (x.level, x.pulseEnd) := by
  rw [State.afterDrive, State.startingOn_crossed b noCue, Lane.arrive_eq]
  simp [LaneRecord.afterPulseEnd, drivenWatched, noPulse]

/-- What the whole tick makes of a check that falls due at position 0, and whom it tells (R138, R144). -/
theorem State.boundary_due (b : BoundaryIn) (own : laneOwnershipOk (s.lane l).toLaneRecord)
    (watched : (s.lane l).watched = true) (due : (s.lane l).check = some 1) (noCue : noneAtZero s l)
    (held : (s.lane l).state = .held) (noneStaged : (s.lane l).pending = none)
    (noPulse : (s.lane l).pulseEnd = none) :
    (s.boundaryTick b).lane l =
        (if b.start.rbk.getLsbD l.val = (s.lane l).pin then { s.lane l with check := none }
        else faulted (s.lane l) (s.timebase.frame + 1) 0 (b.start.rbk.getLsbD l.val)) ∧
      ∀ k, s.OnlyLane l k →
        toldAtBoundary s (s.boundaryTick b) k
          (if b.start.rbk.getLsbD l.val = (s.lane l).pin then []
          else faultTold l (s.lane l).toLaneRecord k) := by
  obtain ⟨first, lane, tells⟩ := s.lane_tells b l
  rw [Lane.entered_due due noPulse, Lane.crossed_due held noneStaged] at lane tells
  have dueNow : ((s.crossed b).lane l).check = some 0 := by rw [lane]
  have take : ((s.crossed b).lane l).takeDue = { s.lane l with check := none } := by
    rw [Lane.takeDue_of_due dueNow, lane]
  have drives := State.drives_nothing b noCue noPulse
  have still : drivenWatched (s.lane l) ((s.lane l).level, (s.lane l).pulseEnd) =
      { s.lane l with check := none } := by simp [drivenWatched]
  have samePin : (if changeFirst b.start.order l = true then
      drivenWatched (s.lane l) ((s.lane l).level, (s.lane l).pulseEnd) else s.lane l).pin =
      (s.lane l).pin := by
    split <;> rfl
  obtain ⟨-, position, frame, -⟩ := s.crossed_timebase b
  refine ⟨?_, fun k only => ?_⟩
  · have whole := State.lane_arrive_due (t := s.crossed b) b.start dueNow take watched own drives
    rw [samePin, frame, position] at whole
    rw [State.boundaryTick_eq, whole, still]
    split
    · rfl
    · split <;> rfl
  · obtain ⟨host, others, told⟩ := tells k only
    have noNotes : notesTold (s.crossed b) k = [] :=
      notesTold_of_none (by rw [State.run, host]; exact only.rests.1)
    have arrives := State.told_arrive_due (t := s.crossed b) (g := k) b.start dueNow take watched own drives
      (fun j other _ => (others j other).deaf) noNotes
    rw [samePin] at arrives
    exact State.told_boundaryTick_of told arrives

/-! ### The monitor's own check at a boundary -/

/-- The lane table leaves a lane that is HELD with nothing to apply, or counts its offer down: the monitor
sees the same pin, holder and target before and after (R126, R139). -/
structure Lane.Steady (l : LaneId) (x y : Lane) : Prop where
  table : Lane.atBoundary l x = (y, [])
  same : ∀ f p bit, faulted y f p bit = faulted x f p bit
  watched : y.watched = x.watched
  pin : y.pin = x.pin
  check : y.check = x.check
  told : ∀ g, faultTold l y.toLaneRecord g = faultTold l x.toLaneRecord g
  own : laneOwnershipOk y.toLaneRecord

theorem Lane.steady_held (own : laneOwnershipOk x.toLaneRecord) (held : x.state = .held)
    (noneStaged : x.pending = none) : x.Steady l x :=
  ⟨Lane.atBoundary_of_held held noneStaged, fun _ _ _ => rfl, rfl, rfl, rfl, fun _ => rfl, own⟩

theorem Lane.steady_offered (own : laneOwnershipOk x.toLaneRecord) (offered : x.state = .offered)
    (noneStaged : x.pending = none) {o : Offer} (offer : x.offer = some o) {n : Nat}
    (remaining : o.remaining = some n) (more : 2 ≤ n) :
    x.Steady l { x with offer := some ⟨o.target, some (n - 1)⟩ } := by
  refine ⟨?_, fun f p bit => ?_, rfl, rfl, rfl, fun g => ?_, own.1, ?_⟩
  · rw [Lane.atBoundary_of_offered offered noneStaged, Lane.countOffer_of_two_le offer remaining more]
  · simp only [faulted, offered, if_true]
    rfl
  · simp only [faultTold, offer, Option.map_some]
  · obtain ⟨o', n', offer', remaining', -, most, apart⟩ := offerOk_offered own offered
    cases offer.symm.trans offer'
    cases remaining.symm.trans remaining'
    have offered : x.state = .offered := offered
    simp [offerOk, offered, apart]
    omega

/-- The monitor's check at the boundary, whichever reaction comes first (R131, R139, R140). -/
theorem Lane.crossed_steady (steady : x.Steady l y) (watched : x.watched = true) (noCheck : x.check = none)
    (own : laneOwnershipOk x.toLaneRecord) (given : x.Given) (noneStaged : x.pending = none) :
    (Lane.crossed l f bit first x).1 = (if bit = x.pin then y else faulted x f 0 bit) ∧
      ∀ g, State.postsFor g (Lane.crossed l f bit first x).2 =
        if bit = x.pin then [] else faultTold l x.toLaneRecord g := by
  have before := Lane.compare_watched (l := l) watched own f 0 bit
  have after := Lane.compare_watched (l := l) (steady.watched.trans watched) steady.own f 0 bit
  rw [steady.pin, steady.same] at after
  cases first with
  | true =>
    simp only [Lane.crossed, if_true, steady.table, List.nil_append,
      Lane.boundaryCheck_of_none (steady.check.trans noCheck)]
    exact ⟨after.1, fun g => by rw [after.2 g, steady.told g]⟩
  | false =>
    simp only [Lane.crossed, Bool.false_eq_true, if_false, Lane.boundaryCheck_of_none noCheck]
    by_cases same : bit = x.pin
    · rw [Lane.compare_of_match (by simp [same]), steady.table, if_pos same]
      exact ⟨rfl, fun _ => (if_pos same).symm⟩
    · have fault := before.1.trans (if_neg same)
      have held : (faulted x f 0 bit).state = .held := by
        rcases given with held | offered
        · simp [faulted, held]
        · simp [faulted, offered]
      rw [fault, Lane.atBoundary_of_held held noneStaged]
      exact ⟨(if_neg same).symm, fun g => by rw [List.append_nil, before.2 g]⟩

/-- A watched lane with no pending check over the whole tick (R139). -/
theorem State.boundary_checked (b : BoundaryIn) (own : laneOwnershipOk (s.lane l).toLaneRecord)
    (steady : (s.lane l).Steady l y) (noPulse' : y.pulseEnd = none) (watched : (s.lane l).watched = true)
    (noCheck : (s.lane l).check = none) (noCue : noneAtZero s l) (given : (s.lane l).Given)
    (noneStaged : (s.lane l).pending = none) (noPulse : (s.lane l).pulseEnd = none) :
    (s.boundaryTick b).lane l =
        (if b.rbk.getLsbD l.val = (s.lane l).pin then y
        else faulted (s.lane l) (s.timebase.frame + 1) 0 (b.rbk.getLsbD l.val)) ∧
      ∀ k, s.OnlyLane l k →
        toldAtBoundary s (s.boundaryTick b) k
          (if b.rbk.getLsbD l.val = (s.lane l).pin then []
          else faultTold l (s.lane l).toLaneRecord k) := by
  obtain ⟨first, lane, told⟩ := s.lane_told b l
  have entered : (s.lane l).entered s.timebase.f = s.lane l := by
    rw [Lane.entered_of_runs (by simp [noPulse]), noCheck]
    exact congrArg (Lane.mk (s.lane l).toLaneRecord) noCheck.symm
  obtain ⟨crossed, posts⟩ := Lane.crossed_steady (f := s.timebase.frame + 1)
    (bit := b.rbk.getLsbD l.val) (first := first) steady watched noCheck own given noneStaged
  rw [entered] at lane told
  rw [crossed] at lane
  have rests : ((s.crossed b).lane l).pulseEnd = none ∧ ((s.crossed b).lane l).check = none := by
    rw [lane]
    split
    · exact ⟨noPulse', steady.check.trans noCheck⟩
    · exact ⟨rfl, rfl⟩
  refine ⟨?_, fun k only => ?_⟩
  · rw [State.lane_boundaryTick_still noCue rests.1 (by simp [rests.2]), lane]
  · have told := told k only fun due => by
      rw [rests.2] at due
      cases due
    rwa [posts k] at told

/-! ### O36 -/

/-- Settles O36. -/
theorem readbackChecks : Obligations.ReadbackChecks := by
  intro l b s own
  refine ⟨LaneRecord.pinShows _, fun watched => ⟨fun due next => ?_,
    fun due next noCue held noneStaged noPulse => ?_,
    fun noCheck next noCue noneStaged noPulse => ?_⟩⟩
  · have dueNow : (s.ticked.lane l).check = some 0 := by
      rw [State.lane_ticked, due]
      rfl
    have take : (s.ticked.lane l).takeDue = { s.lane l with check := none } := by
      rw [Lane.takeDue_of_due dueNow, State.lane_ticked]
      rfl
    have drives := (atNext s).afterDrive_due (t := s.ticked) (l := l) s.ticked_hosts s.ticked_timebase watched
    refine ⟨_, (exec_readbackCheck b due).trans (congrArg _ (State.tick_arrival b next)),
      State.arrive_timebase s.ticked b.start, State.arrive_hosts s.ticked b.start, ?_,
      fun others k noNotes => ?_⟩
    · exact State.lane_arrive_due (t := s.ticked) b.start dueNow take watched own drives
    · have told := State.told_arrive_due (t := s.ticked) (g := k) b.start dueNow take watched own drives
        (fun j other dueJ => by
          rw [State.lane_ticked] at dueJ
          exact absurd dueJ (notDue_of_two_le (others j other)))
        (by
          rw [notesTold_congr s.ticked_hosts s.ticked_timebase]
          exact notesTold_of_noNotes noNotes)
      exact told.port
  · obtain ⟨lane, told⟩ := State.boundary_due b own watched due noCue held noneStaged noPulse
    exact ⟨_, (exec_readbackCheck b due).trans (congrArg _ (State.tick_boundary b next)), lane,
      fun k ⟨noProposal, load, rests, others⟩ => told k ⟨noProposal, load, rests, others⟩⟩
  · have checked {y : Lane} (steady : (s.lane l).Steady l y) (noPulse' : y.pulseEnd = none)
        (given : (s.lane l).Given) :=
      State.boundary_checked b own steady noPulse' watched noCheck noCue given noneStaged noPulse
    refine ⟨_, exec_frameBoundary_next b next, fun held => ?_, fun offered o offer n remaining more => ?_,
      fun state k ⟨noProposal, load, rests, others⟩ => ?_⟩
    · exact (checked (Lane.steady_held own held noneStaged) noPulse (.inl held)).1
    · exact (checked (Lane.steady_offered own offered noneStaged offer remaining more) noPulse
        (.inr offered)).1
    · have only : s.OnlyLane l k := ⟨noProposal, load, rests, others⟩
      rcases state with held | ⟨offered, notLast⟩
      · exact (checked (Lane.steady_held own held noneStaged) noPulse (.inl held)).2 k only
      · obtain ⟨o, n, offer, remaining, least, -, -⟩ := offerOk_offered own offered
        have more : 2 ≤ n := by
          have other : n ≠ 1 := fun last => notLast (by rw [offer, Option.bind_some, remaining, last])
          omega
        exact (checked (Lane.steady_offered own offered noneStaged offer remaining more) noPulse
          (.inr offered)).2 k only

end Sys2Proof.Machine
end

section
/-!
PROOFS. O49: a port reset in every block (R35, R133, R134, R158, R159, R170, R171, R175).
-/

namespace Sys2Proof.Machine

open Sys2Proof.Safety

variable {s t u v : State} {l : LaneId} {g h : HostId} {x : Lane}

/-! ### Lanes -/

namespace Lane

variable {o : Offer} {held : Bool}

/-- A lane given up with its offer (R25, R133). -/
def givenUp (x : Lane) : Lane := { x.retire with offer := none }

theorem givenUp_eq (x : Lane) :
    x.givenUp =
      { x with
        state := .retiring, offer := none
        level := if x.pulseEnd.isNone then false else x.level
        check :=
          if x.pulseEnd.isNone && x.level && x.watched then some x.settings.settle else x.check } := by
  rw [givenUp, Lane.retire_eq]
  cases pulse : x.pulseEnd with
  | none => simp
  | some e => simp

theorem retire_of_noOffer (none : x.offer = none) : x.retire = x.givenUp := by
  have kept : x.retire.offer = x.offer := by
    rw [Lane.retire_eq]
    split <;> rfl
  have same : x.retire.offer = .none := kept.trans none
  rw [givenUp, ← same]

theorem atPortReset_held (state : x.state = .held) (holder : x.holder = some g) :
    Lane.atPortReset l h held x = if g = h then (x.retire, []) else (x, []) := by
  simp only [Lane.atPortReset, state, holder]

theorem atPortReset_offered (state : x.state = .offered) (holder : x.holder = some g)
    (offer : x.offer = some o) :
    Lane.atPortReset l h held x =
      if g = h then (x.givenUp, [(o.target, .offerEnded l .reset)])
      else if o.target = h then (x.offerEnded, [(g, .offerEnded l .reset)])
      else (x, []) := by
  simp only [Lane.atPortReset, state, holder, offer]
  rfl

theorem atPortReset_handover (state : x.state = .handover) (holder : x.holder = some g)
    (offer : x.offer = some o) :
    Lane.atPortReset l h held x =
      if g ≠ h ∧ o.target = h then
        (if held then x.givenUp else x.offerEnded, [(g, .offerEnded l .reset)])
      else (x, []) := by
  simp only [Lane.atPortReset, state, holder, offer]
  rfl

theorem atPortReset_idle (idle : x.state = .free ∨ x.state = .retiring) :
    Lane.atPortReset l h held x = (x, []) := by
  rcases idle with state | state <;> simp only [Lane.atPortReset, state]

end Lane

/-- A lane that is not FREE has a holder, and one that is OFFERED or HANDOVER an offer to another host
(R14, R120). -/
theorem exists_holder {x : LaneRecord} (own : laneOwnershipOk x) (notFree : x.state ≠ .free) :
    ∃ g, x.holder = some g :=
  Option.ne_none_iff_exists'.1 fun none => notFree (own.1.2 none)

theorem exists_offer {x : LaneRecord} (own : laneOwnershipOk x)
    (given : x.state = .offered ∨ x.state = .handover) :
    ∃ o, x.offer = some o ∧ x.holder ≠ some o.target := by
  rcases given with state | state
  · obtain ⟨o, n, offer, -, -, -, apart⟩ := offerOk_offered own state
    exact ⟨o, offer, apart⟩
  · obtain ⟨target, offer, apart⟩ := offerOk_handover own state
    exact ⟨_, offer, apart⟩

/-- What a port reset of host `h` makes of a lane (R35, R133, R134). -/
theorem Lane.atPortReset_fst (l : LaneId) (h : HostId) (giverHeld : Bool)
    (own : laneOwnershipOk x.toLaneRecord) :
    (Lane.atPortReset l h giverHeld x).1 = afterReset h giverHeld x := by
  unfold afterReset
  rw [← Lane.givenUp_eq]
  cases state : x.state with
  | free => rw [Lane.atPortReset_idle (.inl state)]
  | retiring => rw [Lane.atPortReset_idle (.inr state)]
  | held =>
    obtain ⟨g, holder⟩ := exists_holder own (by simp [state])
    have noOffer := offer_eq_none own (by simp [state]) (by simp [state])
    rw [Lane.atPortReset_held state holder, holder, Lane.retire_of_noOffer noOffer]
    by_cases mine : g = h <;> simp [mine]
  | offered =>
    obtain ⟨g, holder⟩ := exists_holder own (by simp [state])
    obtain ⟨o, offer, -⟩ := exists_offer own (.inl state)
    rw [Lane.atPortReset_offered state holder offer, holder, offer]
    by_cases mine : g = h
    · simp [mine]
    · by_cases tomine : o.target = h <;> simp [mine, tomine, Lane.offerEnded, holder]
  | handover =>
    obtain ⟨g, holder⟩ := exists_holder own (by simp [state])
    obtain ⟨o, offer, -⟩ := exists_offer own (.inr state)
    rw [Lane.atPortReset_handover state holder offer, holder, offer]
    by_cases mine : g = h
    · simp [mine]
    · by_cases tomine : o.target = h <;> simp [mine, tomine, Lane.offerEnded, holder]

/-- Whether the giver's port is held in reset matters for another host's lane alone. -/
theorem afterReset_congr {held held' : Bool} (same : x.holder ≠ some h → held' = held) :
    afterReset h held' x = afterReset h held x := by
  by_cases mine : x.holder = some h
  · unfold afterReset
    cases x.state <;> simp [mine]
  · rw [same mine]

/-- The OFFER_ENDED of a lane at a port reset of host `h`, for another host (R133, R134). -/
def endsOfferFor (h g : HostId) (x : LaneRecord) : Bool :=
  (x.state == .offered &&
      ((x.holder == some h && x.offer.map (·.target) == some g) ||
        (x.holder == some g && x.offer.map (·.target) == some h))) ||
    (x.state == .handover && x.holder == some g && x.offer.map (·.target) == some h)

theorem Lane.atPortReset_told (l : LaneId) (giverHeld : Bool) (own : laneOwnershipOk x.toLaneRecord)
    (other : g ≠ h) :
    State.postsFor g (Lane.atPortReset l h giverHeld x).2 =
      if endsOfferFor h g x.toLaneRecord = true then [.offerEnded l .reset] else [] := by
  unfold endsOfferFor
  cases state : x.state with
  | free => rw [Lane.atPortReset_idle (.inl state)]; rfl
  | retiring => rw [Lane.atPortReset_idle (.inr state)]; rfl
  | held =>
    obtain ⟨k, holder⟩ := exists_holder own (by simp [state])
    rw [Lane.atPortReset_held state holder]
    split <;> rfl
  | offered =>
    obtain ⟨k, holder⟩ := exists_holder own (by simp [state])
    obtain ⟨o, offer, apart⟩ := exists_offer own (.inl state)
    rw [Lane.atPortReset_offered state holder offer, holder, offer]
    by_cases mine : k = h
    · subst mine
      simp [State.postsFor_singleton, Ne.symm other]
    · by_cases tomine : o.target = h
      · simp [mine, tomine, State.postsFor_singleton]
      · simp [mine, tomine, State.postsFor]
  | handover =>
    obtain ⟨k, holder⟩ := exists_holder own (by simp [state])
    obtain ⟨o, offer, apart⟩ := exists_offer own (.inr state)
    rw [Lane.atPortReset_handover state holder offer, holder, offer]
    by_cases mine : k = h
    · subst mine
      simp [State.postsFor, Ne.symm other]
    · by_cases tomine : o.target = h
      · simp [mine, tomine, State.postsFor_singleton]
      · simp [mine, tomine, State.postsFor]

/-- The lane table tells the reset host nothing (R170). -/
theorem Lane.atPortReset_spares (l : LaneId) (giverHeld : Bool) (own : laneOwnershipOk x.toLaneRecord) :
    ∀ p ∈ (Lane.atPortReset l h giverHeld x).2, p.1 ≠ h := by
  cases state : x.state with
  | free => rw [Lane.atPortReset_idle (.inl state)]; nofun
  | retiring => rw [Lane.atPortReset_idle (.inr state)]; nofun
  | held =>
    obtain ⟨k, holder⟩ := exists_holder own (by simp [state])
    rw [Lane.atPortReset_held state holder]
    split <;> nofun
  | offered =>
    obtain ⟨k, holder⟩ := exists_holder own (by simp [state])
    obtain ⟨o, offer, apart⟩ := exists_offer own (.inl state)
    rw [Lane.atPortReset_offered state holder offer]
    by_cases mine : k = h
    · subst mine
      have apart : o.target ≠ k := fun same => apart (holder.trans (by rw [same]))
      simpa using apart
    · by_cases tomine : o.target = h <;> simp [mine, tomine]
  | handover =>
    obtain ⟨k, holder⟩ := exists_holder own (by simp [state])
    obtain ⟨o, offer, -⟩ := exists_offer own (.inr state)
    rw [Lane.atPortReset_handover state holder offer]
    split
    · rename_i other
      simpa using other.1
    · nofun

theorem State.port_postAll_of_spares {ps : Posts} (spares : ∀ p ∈ ps, p.1 ≠ h) (s : State) :
    (s.postAll ps).port h = s.port h := by
  induction ps generalizing s with
  | nil => rfl
  | cons p ps ih =>
    have first := State.port_post_ne s p.2 (spares p List.mem_cons_self).symm
    exact (ih (fun q mem => spares q (List.mem_cons_of_mem _ mem)) _).trans first

/-- Resetting lanes one after another tells the other hosts in that order (R175). -/
theorem State.tells_foldl_reset {ls : List LaneId} (nodup : ls.Nodup) (s : State) (h : HostId)
    (own : ∀ l ∈ ls, laneOwnershipOk (s.lane l).toLaneRecord) :
    let t := ls.foldl (fun s l => s.reactLane l (Lane.atPortReset l h (s.giverHeld l))) s
    t.port h = s.port h ∧
      ∀ g, g ≠ h →
        s.Tells g ((ls.filter fun l => endsOfferFor h g (s.lane l).toLaneRecord).map fun l =>
          .offerEnded l .reset) t := by
  induction ls generalizing s with
  | nil => exact ⟨rfl, fun g _ => .refl s g⟩
  | cons k ls ih =>
    obtain ⟨fresh, nodup⟩ := List.nodup_cons.1 nodup
    let u := s.reactLane k (Lane.atPortReset k h (s.giverHeld k))
    have ownFirst := own k List.mem_cons_self
    have lanes (l : LaneId) (mem : l ∈ ls) : u.lane l = s.lane l :=
      (State.lane_reactLane _ _ _ _).trans (if_neg fun same => fresh (by rwa [← same]))
    obtain ⟨port, told⟩ := ih nodup u fun l mem => by
      rw [lanes l mem]
      exact own l (List.mem_cons_of_mem _ mem)
    have first : u.port h = s.port h :=
      State.port_postAll_of_spares (Lane.atPortReset_spares k _ ownFirst) _
    refine ⟨port.trans first, fun g other => ?_⟩
    have now : s.Tells g _ u := State.tells_reactLane s k (Lane.atPortReset k h (s.giverHeld k)) g
    have rest : (ls.filter fun l => endsOfferFor h g (u.lane l).toLaneRecord) =
        ls.filter fun l => endsOfferFor h g (s.lane l).toLaneRecord :=
      List.filter_congr fun l mem => by rw [lanes l mem]
    have whole := now.trans (told g other)
    rw [Lane.atPortReset_told k _ ownFirst other, rest] at whole
    rw [List.filter_cons]
    by_cases ends : endsOfferFor h g (s.lane k).toLaneRecord = true
    · rw [if_pos ends] at whole ⊢
      exact whole
    · rw [if_neg ends] at whole ⊢
      exact whole

theorem State.lanesReset_told (s : State) (h : HostId) (own : ownershipKept s) :
    (s.lanesReset h).port h = s.port h ∧
      ∀ g, g ≠ h → s.Tells g (resetEndsOffers s h g) (s.lanesReset h) :=
  s.tells_foldl_reset nodup_allLanes h fun l _ => own l

end Sys2Proof.Machine
end

section
/-!
PROOFS. O49, continued: the agreement unit at a port reset, and the whole session (R158, R159, R170, R171).
-/

namespace Sys2Proof.Machine

open Sys2Proof.Safety

variable {s t u v : State} {l : LaneId} {g h : HostId} {x : Lane} {p : Proposal}

/-! ### The agreement unit -/

/-- The notices of the agreement unit at a port reset of host `h`, which is told nothing itself (R170). -/
def resetTold (s : State) (h : HostId) : Told := fun g => if g = h then [] else resetEndsProposal s h g

/-- The record without host `h` (R159). -/
def withoutHost (p : Proposal) (h : HostId) : Proposal :=
  { p with
    voters := HostSet.ofTest fun g => g != h && HostSet.has p.voters g
    yes := HostSet.ofTest fun g => g != h && HostSet.has p.yes g }

theorem HostSet.remove_eq_ofTest (x : HostSet) (h : HostId) :
    HostSet.remove x h = HostSet.ofTest fun g => g != h && HostSet.has x g :=
  HostSet.ext_has fun g => by
    rw [HostSet.has_remove, HostSet.has_ofTest]
    by_cases own : g = h <;> simp [own]

/-- The yes set is complete once every other voter's YES is counted. -/
theorem withoutHost_every (p : Proposal) (h : HostId) :
    (withoutHost p h).yes = (withoutHost p h).voters ↔
      ∀ k : HostId, k ≠ h → HostSet.has p.yes k = HostSet.has p.voters k := by
  refine ⟨fun same k other => ?_, fun each => HostSet.ext_has fun k => ?_⟩
  · have has := congrArg (HostSet.has · k) same
    have away : (k != h) = true := by simpa using other
    simpa [withoutHost, away] using has
  · by_cases own : k = h
    · simp [withoutHost, own]
    · simp [withoutHost, each k own]

section Record

variable (record : s.proposal = some p)
include record

theorem recordAfterReset_proposer (proposer : p.proposer = h) :
    recordAfterReset s h = s.clearProposal := by
  simp only [recordAfterReset, State.clearProposal, record, if_pos proposer]
  split <;> rfl

theorem recordAfterReset_agrees (other : p.proposer ≠ h) (voter : HostSet.has p.voters h = true)
    (opened : p.state = .opened) (every : (withoutHost p h).yes = (withoutHost p h).voters) :
    recordAfterReset s h = afterAgreement s (withoutHost p h) := by
  simp only [recordAfterReset, record, if_neg other, voter, if_true]
  exact if_pos ⟨opened, every⟩

theorem recordAfterReset_stays (other : p.proposer ≠ h) (voter : HostSet.has p.voters h = true)
    (waits : ¬ (p.state = .opened ∧ (withoutHost p h).yes = (withoutHost p h).voters)) :
    recordAfterReset s h = s.setProposal (some (withoutHost p h)) := by
  simp only [recordAfterReset, record, if_neg other, voter, if_true]
  exact if_neg waits

theorem recordAfterReset_stranger (other : p.proposer ≠ h) (notVoter : HostSet.has p.voters h = false) :
    recordAfterReset s h = s := by
  simp [recordAfterReset, record, if_neg other, notVoter]

end Record

theorem postsOf_of_nobody {told : Told} (nobody : ∀ g, told g = []) : postsOf told = [] := by
  simp [postsOf, nobody]

theorem demotionsTold_initial (f : Nat) : demotionsTold f .initial = [] := rfl

/-- The agreement unit's effect of a port reset, blocks and notices apart (R158, R159). -/
theorem State.agreementReset_eq (initial : s.host h = .initial) :
    s.agreementReset h = (recordAfterReset s h).postAll (postsOf (resetTold s h)) := by
  have silent (result : s.agreementReset h = recordAfterReset s h)
      (nobody : ∀ g, resetEndsProposal s h g = []) :
      s.agreementReset h = (recordAfterReset s h).postAll (postsOf (resetTold s h)) := by
    rw [postsOf_of_nobody (told := resetTold s h) fun g => by simp [resetTold, nobody]]
    exact result
  cases record : s.proposal with
  | none =>
    exact silent (by simp [State.agreementReset, recordAfterReset, record])
      fun g => by simp [resetEndsProposal, record]
  | some p =>
    by_cases proposer : p.proposer = h
    · have listed := postsOf_filter (P := fun g => g ≠ h ∧ HostSet.has p.voters g = true)
        (p := fun g => HostSet.has (HostSet.remove p.voters h) g)
        (fun g => by simp [HostSet.has_remove]) (.proposalEnded .withdrawn)
      have told : resetTold s h = fun g =>
          if g ≠ h ∧ HostSet.has p.voters g = true then [.proposalEnded .withdrawn] else [] := by
        funext g
        by_cases own : g = h <;> simp [resetTold, resetEndsProposal, record, proposer, own]
      rw [recordAfterReset_proposer record proposer, told, listed]
      simp only [State.agreementReset, record, if_pos proposer]
      rfl
    · cases voter : HostSet.has p.voters h with
      | false =>
        refine silent ?_ fun g => by simp [resetEndsProposal, record, proposer, voter]
        rw [recordAfterReset_stranger record proposer voter]
        simp [State.agreementReset, record, proposer, voter]
      | true =>
        have effect : s.agreementReset h =
            if p.state = .opened ∧ (withoutHost p h).yes = (withoutHost p h).voters then
              s.agree (withoutHost p h)
            else s.setProposal (some (withoutHost p h)) := by
          simp only [State.agreementReset, record, if_neg proposer, voter, if_true,
            HostSet.remove_eq_ofTest]
          rfl
        by_cases agrees : p.state = .opened ∧ (withoutHost p h).yes = (withoutHost p h).voters
        · have told : resetTold s h = fun g => demotionsTold p.newF (s.host g) := by
            funext g
            by_cases own : g = h
            · subst own
              rw [initial, demotionsTold_initial]
              exact if_pos rfl
            · have each := (withoutHost_every p h).1 agrees.2
              simp only [resetTold, if_neg own, resetEndsProposal, record, if_neg proposer]
              exact if_pos ⟨voter, agrees.1, each⟩
          rw [effect, if_pos agrees, recordAfterReset_agrees record proposer voter agrees.1 agrees.2,
            State.agree_eq, told]
          rfl
        · refine silent ?_ fun g => ?_
          · rw [effect, if_neg agrees, recordAfterReset_stays record proposer voter agrees]
          · simp only [resetEndsProposal, record, if_neg proposer]
            exact if_neg fun ⟨_, opened, each⟩ => agrees ⟨opened, (withoutHost_every p h).2 each⟩

/-! ### What the agreement unit reads and leaves -/

theorem demotedBy_initial (f : Nat) : demotedBy f .initial = .initial := rfl

/-- The agreement unit's effect reads the timebase, the record, and the books of each host for themselves. -/
theorem recordAfterReset_congr (timebase : v.timebase = s.timebase) (proposal : v.proposal = s.proposal)
    (hosts : ∀ g, g ≠ h → v.host g = s.host g) :
    (recordAfterReset v h).timebase = (recordAfterReset s h).timebase ∧
      (recordAfterReset v h).proposal = (recordAfterReset s h).proposal ∧
      ∀ g, g ≠ h → (recordAfterReset v h).host g = (recordAfterReset s h).host g := by
  unfold recordAfterReset
  rw [proposal]
  cases s.proposal with
  | none => exact ⟨timebase, proposal, hosts⟩
  | some p =>
    dsimp only
    split
    · rw [timebase]
      exact ⟨rfl, rfl, hosts⟩
    · split
      · split
        · refine ⟨by simp [afterAgreement, timebase], rfl, fun g other => ?_⟩
          have same : v.hosts[g.val] = s.hosts[g.val] := hosts g other
          simp [afterAgreement, State.host, same]
        · exact ⟨timebase, rfl, hosts⟩
      · exact ⟨timebase, proposal, hosts⟩

theorem recordAfterReset_own (initial : s.host h = .initial) :
    (recordAfterReset s h).host h = .initial := by
  unfold recordAfterReset
  cases s.proposal with
  | none => exact initial
  | some p =>
    dsimp only
    split
    · exact initial
    · split
      · split
        · have initial : s.hosts[h.val] = .initial := initial
          simp [afterAgreement, State.host, initial, demotedBy_initial]
        · exact initial
      · exact initial

/-- `t` has the pins, the ports, the compile queue and the frame counter of `s`. -/
structure State.AroundRecord (s t : State) : Prop where
  pins : samePins s t
  ports : t.ports = s.ports
  jobs : t.jobs = s.jobs
  frame : t.timebase.frame = s.timebase.frame

theorem recordAfterReset_around (s : State) (h : HostId) : s.AroundRecord (recordAfterReset s h) := by
  unfold recordAfterReset
  cases s.proposal with
  | none => exact ⟨⟨rfl, rfl, rfl, rfl⟩, rfl, rfl, rfl⟩
  | some p =>
    dsimp only
    split
    · exact ⟨⟨rfl, rfl, rfl, rfl⟩, rfl, rfl, rfl⟩
    · split
      · split <;> exact ⟨⟨rfl, rfl, rfl, rfl⟩, rfl, rfl, rfl⟩
      · exact ⟨⟨rfl, rfl, rfl, rfl⟩, rfl, rfl, rfl⟩

theorem resetEndsProposal_congr (proposal : v.proposal = s.proposal) (host : v.host g = s.host g) :
    resetEndsProposal v h g = resetEndsProposal s h g := by
  unfold resetEndsProposal
  rw [proposal, host]

theorem resetEndsOffers_congr (lanes : v.lanes = s.lanes) (h g : HostId) :
    resetEndsOffers v h g = resetEndsOffers s h g := by
  simp only [resetEndsOffers, State.lane_congr lanes]

theorem postsFor_resetTold (s : State) (other : g ≠ h) :
    State.postsFor g (postsOf (resetTold s h)) = resetEndsProposal s h g := by
  rw [State.postsFor, postsOf_for, resetTold, if_neg other]

theorem resetTold_spares (s : State) : ∀ p ∈ postsOf (resetTold s h), p.1 ≠ h := by
  intro p mem same
  have none : State.postsFor h (postsOf (resetTold s h)) = [] := by
    rw [State.postsFor, postsOf_for, resetTold, if_pos rfl]
  have found : p.2 ∈ State.postsFor h (postsOf (resetTold s h)) :=
    List.mem_map.2 ⟨p, List.mem_filter.2 ⟨mem, by simpa using same⟩, rfl⟩
  rw [none] at found
  cases found

/-! ### The whole session -/

/-- What a part of the reset of host `h` leaves of `v`: the pins, the compile queue, and the port of the
host itself. -/
structure State.Session (v t : State) (h : HostId) : Prop where
  pins : samePins v t
  jobs : t.jobs = v.jobs
  port : t.port h = v.port h

/-- The agreement unit's part of a reset. -/
theorem State.session_agreement (initial : v.host h = .initial) :
    v.Session (v.agreementReset h) h ∧
      (v.agreementReset h).timebase = (recordAfterReset v h).timebase ∧
      (v.agreementReset h).proposal = (recordAfterReset v h).proposal ∧
      (v.agreementReset h).hosts = (recordAfterReset v h).hosts ∧
      ∀ g, g ≠ h → v.Tells g (resetEndsProposal v h g) (v.agreementReset h) := by
  obtain ⟨pins, ports, jobs, frame⟩ := recordAfterReset_around v h
  have port (g : HostId) : (recordAfterReset v h).port g = v.port g := by simp [State.port, ports]
  rw [State.agreementReset_eq initial]
  refine ⟨⟨?_, by simpa using jobs, ?_⟩, by simp, by simp, by simp, fun g other => ?_⟩
  · simpa [samePins] using pins
  · exact (State.port_postAll_of_spares (resetTold_spares v) _).trans (port h)
  · have told := (recordAfterReset v h).tells_postAll (postsOf (resetTold v h)) g
    rw [postsFor_resetTold v other] at told
    exact (State.Tells.of_port frame (port g)).quiet told

theorem State.lanesReset_pins (s : State) (h : HostId) : samePins s (s.lanesReset h) :=
  State.lanesReset_keeps (P := samePins s) (fun _ _ _ pins => by simpa [samePins] using pins) s h
    ⟨rfl, rfl, rfl, rfl⟩

/-- The lane table's part of a reset. -/
theorem State.session_lanes (own : ownershipKept v) (h : HostId) :
    v.Session (v.lanesReset h) h ∧ (v.lanesReset h).timebase = v.timebase ∧
      (v.lanesReset h).proposal = v.proposal ∧ (v.lanesReset h).hosts = v.hosts ∧
      ∀ g, g ≠ h → v.Tells g (resetEndsOffers v h g) (v.lanesReset h) := by
  obtain ⟨port, told⟩ := v.lanesReset_told h own
  exact ⟨⟨v.lanesReset_pins h, v.lanesReset_jobs h, port⟩, v.lanesReset_timebase h,
    v.lanesReset_proposal h, v.lanesReset_hosts h, told⟩

theorem State.Session.trans (first : s.Session t h) (second : t.Session u h) : s.Session u h := by
  obtain ⟨⟨rstN, rbk, lastServed, pending⟩, jobs, port⟩ := first
  obtain ⟨⟨rstN', rbk', lastServed', pending'⟩, jobs', port'⟩ := second
  exact ⟨⟨rstN'.trans rstN, rbk'.trans rbk, lastServed'.trans lastServed, pending'.trans pending⟩,
    jobs'.trans jobs, port'.trans port⟩

/-- Both parts, in the order that `first` gives (R170, R175). -/
structure State.SessionReset (v t : State) (h : HostId) (first : Bool) : Prop where
  session : v.Session t h
  timebase : t.timebase = (recordAfterReset v h).timebase
  proposal : t.proposal = (recordAfterReset v h).proposal
  hosts : ∀ g, t.host g = if g = h then .initial else (recordAfterReset v h).host g
  tells : ∀ g, g ≠ h →
    v.Tells g
      (if first = true then resetEndsProposal v h g ++ resetEndsOffers v h g
      else resetEndsOffers v h g ++ resetEndsProposal v h g) t

theorem State.sessionReset_agreementFirst (initial : v.host h = .initial) (own : ownershipKept v) :
    v.SessionReset ((v.agreementReset h).lanesReset h) h true := by
  obtain ⟨session, timebase, proposal, hosts, told⟩ := State.session_agreement initial
  have lanes := v.agreementReset_lanes h
  have own' : ownershipKept (v.agreementReset h) := fun l => by
    rw [State.lane_congr lanes]
    exact own l
  obtain ⟨session', timebase', proposal', hosts', told'⟩ := State.session_lanes own' h
  refine ⟨session.trans session', timebase'.trans timebase, proposal'.trans proposal, fun g => ?_,
    fun g other => ?_⟩
  · rw [State.host_congr (hosts'.trans hosts)]
    split
    · rename_i same
      rw [same]
      exact recordAfterReset_own initial
    · rfl
  · have whole := (told g other).trans (told' g other)
    rwa [resetEndsOffers_congr lanes] at whole

theorem State.sessionReset_lanesFirst (initial : v.host h = .initial) (own : ownershipKept v) :
    v.SessionReset ((v.lanesReset h).agreementReset h) h false := by
  obtain ⟨session, timebase, proposal, hosts, told⟩ := State.session_lanes own h
  have host (g : HostId) : (v.lanesReset h).host g = v.host g := State.host_congr hosts g
  have initial' : (v.lanesReset h).host h = .initial := (host h).trans initial
  obtain ⟨session', timebase', proposal', hosts', told'⟩ := State.session_agreement initial'
  obtain ⟨sameTimebase, sameProposal, sameHosts⟩ :=
    recordAfterReset_congr (h := h) timebase proposal fun g _ => host g
  refine ⟨session.trans session', timebase'.trans sameTimebase, proposal'.trans sameProposal, fun g => ?_,
    fun g other => ?_⟩
  · rw [State.host_congr hosts']
    split
    · rename_i same
      rw [same]
      exact recordAfterReset_own initial'
    · exact sameHosts g ‹_›
  · have whole := (told g other).trans (told' g other)
    rwa [resetEndsProposal_congr proposal (host g)] at whole

/-- The part with one port replaced, and the host's books, slots, load, run record and job cleared (R60, R74,
R95, R118, R170). -/
def State.unseated (s : State) (q : Port) (h : HostId) : State :=
  ((s.setPort h q).setHost h .initial).dropJob h

theorem State.unseated_host (s : State) (q : Port) (h g : HostId) :
    (s.unseated q h).host g = if g = h then .initial else s.host g := by
  simp [State.unseated, State.dropJob, State.host_setHost]

theorem State.unseated_rest (s : State) (q : Port) (h : HostId) :
    samePins s (s.unseated q h) ∧ (s.unseated q h).timebase = s.timebase ∧
      (s.unseated q h).proposal = s.proposal ∧ (s.unseated q h).lanes = s.lanes ∧
      (s.unseated q h).jobs = s.jobs.filter (fun j => j.host != h) ∧
      (∀ g, g ≠ h → (s.unseated q h).port g = s.port g) ∧ (s.unseated q h).port h = q :=
  ⟨⟨rfl, rfl, rfl, rfl⟩, rfl, rfl, rfl, rfl, fun _ other => s.port_setPort_ne q other,
    s.port_setPort_self h q⟩

theorem State.resetBlocks_unseated (s : State) (q : Port) (h : HostId) (first : Bool) :
    (s.setPort h q).resetBlocks h first =
      if first = true then ((s.unseated q h).agreementReset h).lanesReset h
      else ((s.unseated q h).lanesReset h).agreementReset h := rfl

theorem State.sessionReset_unseated (s : State) (q : Port) (h : HostId) (first : Bool)
    (own : ownershipKept s) :
    (s.unseated q h).SessionReset ((s.setPort h q).resetBlocks h first) h first := by
  have initial : (s.unseated q h).host h = .initial := by rw [State.unseated_host, if_pos rfl]
  have own' : ownershipKept (s.unseated q h) := fun l => by
    rw [State.lane_congr (s.unseated_rest q h).2.2.2.1]
    exact own l
  rw [State.resetBlocks_unseated]
  cases first with
  | true =>
    rw [if_pos rfl]
    exact State.sessionReset_agreementFirst initial own'
  | false =>
    rw [if_neg Bool.false_ne_true]
    exact State.sessionReset_lanesFirst initial own'

/-- Each lane of a session reset: the port of another host is held as it was (R35, R133, R134). -/
theorem State.lane_sessionReset (s : State) (q : Port) (h : HostId) (first : Bool) (own : ownershipKept s)
    (l : LaneId) :
    ((s.setPort h q).resetBlocks h first).lane l = afterReset h (s.giverHeld l) (s.lane l) := by
  have lane : (s.setPort h q).lane l = s.lane l := rfl
  rw [State.lane_resetBlocks, lane, Lane.atPortReset_fst l h _ (own l)]
  refine afterReset_congr fun other => ?_
  unfold State.giverHeld
  rw [lane]
  cases holder : (s.lane l).holder with
  | none => rfl
  | some g =>
    have other : g ≠ h := fun same => other (by rw [holder, same])
    exact congrArg Port.held (s.port_setPort_ne q other)

/-- A session reset of host `h` in a state that differs from `s` in port `h` alone (R170, R171). -/
theorem sessionReset_resetBlocks (s : State) (q : Port) (h : HostId) (first : Bool)
    (own : ownershipKept s) :
    sessionReset s ((s.setPort h q).resetBlocks h first) h first ∧
      ((s.setPort h q).resetBlocks h first).port h = q := by
  have lanes := s.lane_sessionReset q h first own
  have whole := s.sessionReset_unseated q h first own
  generalize (s.setPort h q).resetBlocks h first = t at lanes whole
  obtain ⟨session, timebase, proposal, hosts, told⟩ := whole
  obtain ⟨⟨rstN, rbk, lastServed, pending⟩, timebase', proposal', lanes', jobs', ports, own'⟩ :=
    s.unseated_rest q h
  have otherHosts (g : HostId) (other : g ≠ h) : (s.unseated q h).host g = s.host g := by
    rw [State.unseated_host, if_neg other]
  obtain ⟨sameTimebase, sameProposal, sameHosts⟩ :=
    recordAfterReset_congr (h := h) timebase' proposal' otherHosts
  obtain ⟨⟨rstN', rbk', lastServed', pending'⟩, jobs, port⟩ := session
  refine ⟨⟨⟨rstN'.trans rstN, rbk'.trans rbk, lastServed'.trans lastServed, pending'.trans pending⟩,
    timebase.trans sameTimebase, proposal.trans sameProposal, jobs.trans jobs', fun g => ?_, lanes,
    fun g other => ?_⟩, port.trans own'⟩
  · rw [hosts]
    split
    · rfl
    · exact sameHosts g ‹_›
  · have whole := (told g other).port
    rwa [ports g other, resetEndsOffers_congr lanes', resetEndsProposal_congr proposal' (otherHosts g other),
      timebase'] at whole

/-- Settles O49. -/
theorem portResets : Obligations.PortResets := by
  intro h bytes sent first s
  refine ⟨momentsOf_transaction (first := first) fun _ => rfl, fun own =>
    ⟨fun complete m choice kind => ?_, fun rstN held => ?_⟩⟩
  · have done : exec (.portReset h .finish bytes first) s =
        .next ((s.setPort h (m.port.endComplete m.frame m.offered bytes).cleared).resetBlocks h first) := by
      have long : ¬ bytes.length < frameBytes := not_lt.2 complete
      change Host.Outcome.next (s.transaction h .finish bytes first) = _
      rw [State.finish_chosen choice (.inl (by omega))]
      simp only [State.endTransaction, State.port_setPort_self, State.setPort_setPort, if_neg long, kind,
        State.portReset]
      rfl
    obtain ⟨session, port⟩ := sessionReset_resetBlocks s
      (m.port.endComplete m.frame m.offered bytes).cleared h first own
    exact ⟨_, done, session, port⟩
  · have done : exec (.prstNLow h sent first) s =
        .next ((s.setPort h
          { (s.port h).cleared with held := true, link := (s.port h).link.abandon sent }).resetBlocks h
            first) := by
      change execPrstNLow h sent first s = _
      simp only [execPrstNLow, held, Bool.false_eq_true, if_false, rstN, if_true, State.portReset,
        State.port_setPort_self, State.setPort_setPort]
      rfl
    obtain ⟨session, port⟩ := sessionReset_resetBlocks s
      { (s.port h).cleared with held := true, link := (s.port h).link.abandon sent } h first own
    refine ⟨_, done, session, ?_⟩
    rw [port]
    exact ⟨rfl, rfl, rfl, rfl, rfl, rfl, takenUp_abandon _ _,
      Link.abandon_abandons _ _⟩

end Sys2Proof.Machine
end
